-- ==== Sys2Proof/Word.lean ====
section
/-! DEFINITION. The two widths of the machine (R5 of `00_scope.md`): data are 8 bits, addresses 16 bits.
Every stored value is an unsigned bit vector (R8). -/

namespace Sys2Proof

/-- A byte: a register `a`, `x`, `y`, `sp`, a memory cell, an opcode or operand byte (R5). -/
abbrev Byte := BitVec 8

/-- A 16-bit value: `pc`, an address, a pointer (R5). -/
abbrev Word := BitVec 16

end Sys2Proof
end

