-- ==== Sys2Proof/Machine/Bits.lean ====
section
/-! DEFINITION. Bit slices, concatenation and extension, as R7 and R8 of `00_scope.md` define them. -/

namespace Sys2Proof.Machine

/-- `{h, l} = h * 256 + l` (R7). -/
def cat (h l : Byte) : Word := BitVec.ofNat 16 (h.toNat * 256 + l.toNat)

/-- `v[7:0]`, the low byte (R7). -/
def lo (v : Word) : Byte := BitVec.ofNat 8 v.toNat

/-- `v[15:8]`, the high byte (R7), which is also the page of an address (glossary of `00_scope.md`). -/
def hi (v : Word) : Byte := BitVec.ofNat 8 (v.toNat / 256)

/-- `zext_16(b) = b` (R8). -/
def zext16 (b : Byte) : Word := b.zeroExtend 16

/-- `sext_16(b)`: `b` if `b < 0x80`, else `b + 0xFF00` (R8). -/
def sext16 (b : Byte) : Word := if b.toNat < 0x80 then zext16 b else zext16 b + 0xFF00

end Sys2Proof.Machine
end

