-- ==== Sys2Proof/Syntax.lean ====
section
/-! DEFINITION. The instructions: one constructor for every row of `opcode_table.json` (R85, R86 of
`30_encoding.md`), with the operand bytes its mode takes: none, one byte `b`, or two bytes as the word
`w = {b2, b1}` (R80 to R82). -/

namespace Sys2Proof

/-- The addressing modes of R81: thirteen with a resolver, and Implied. -/
inductive Mode where
  | imp | acc | imm | zp | zpx | zpy | abs | absx | absy | indx | indy | ind | indabsx | rel
deriving DecidableEq, Repr

/-- The three groups of the admitted instruction set (R84). -/
inductive Group where
  /-- The 151 documented opcodes of the NMOS 6502. -/
  | base
  /-- The five 65C02 opcodes the source names: PHX, PLX, PHY, PLY, JMP (abs,X). -/
  | c02Named
  /-- The fourteen opcodes that decode only when `C02_EXTRA` is true. -/
  | c02Optional
deriving DecidableEq, Repr

/-- The operation selectors of R83: one handler each (R125), named by the mnemonics of R86. -/
inductive Mnemonic where
  | adc | and | asl | bcc | bcs | beq | bit | bmi | bne | bpl | bra | brk | bvc | bvs | clc | cld
  | cli | clv | cmp | cpx | cpy | dec | dex | dey | eor | inc | inx | iny | jmp | jsr | lda | ldx
  | ldy | lsr | nop | ora | pha | php | phx | phy | pla | plp | plx | ply | rol | ror | rti | rts
  | sbc | sec | sed | sei | sta | stx | sty | stz | tax | tay | trb | tsb | tsx | txa | txs | tya
deriving DecidableEq, Repr

/-- An instruction. The comment of a constructor is its form in the syntax of R91, its opcode byte and its rule. -/
inductive Instr where
  -- loads, stores and register transfers (R140 to R152)
  /-- `LDA ($nn,X)`, 0xA1 (R141) -/
  | ldaIndX (b : Byte)
  /-- `LDA $nn`, 0xA5 (R141) -/
  | ldaZp (b : Byte)
  /-- `LDA #$nn`, 0xA9 (R141) -/
  | ldaImm (b : Byte)
  /-- `LDA $nnnn`, 0xAD (R141) -/
  | ldaAbs (w : Word)
  /-- `LDA ($nn),Y`, 0xB1 (R141) -/
  | ldaIndY (b : Byte)
  /-- `LDA $nn,X`, 0xB5 (R141) -/
  | ldaZpX (b : Byte)
  /-- `LDA $nnnn,Y`, 0xB9 (R141) -/
  | ldaAbsY (w : Word)
  /-- `LDA $nnnn,X`, 0xBD (R141) -/
  | ldaAbsX (w : Word)
  /-- `LDX #$nn`, 0xA2 (R142) -/
  | ldxImm (b : Byte)
  /-- `LDX $nn`, 0xA6 (R142) -/
  | ldxZp (b : Byte)
  /-- `LDX $nnnn`, 0xAE (R142) -/
  | ldxAbs (w : Word)
  /-- `LDX $nn,Y`, 0xB6 (R142) -/
  | ldxZpY (b : Byte)
  /-- `LDX $nnnn,Y`, 0xBE (R142) -/
  | ldxAbsY (w : Word)
  /-- `LDY #$nn`, 0xA0 (R143) -/
  | ldyImm (b : Byte)
  /-- `LDY $nn`, 0xA4 (R143) -/
  | ldyZp (b : Byte)
  /-- `LDY $nnnn`, 0xAC (R143) -/
  | ldyAbs (w : Word)
  /-- `LDY $nn,X`, 0xB4 (R143) -/
  | ldyZpX (b : Byte)
  /-- `LDY $nnnn,X`, 0xBC (R143) -/
  | ldyAbsX (w : Word)
  /-- `STA ($nn,X)`, 0x81 (R144) -/
  | staIndX (b : Byte)
  /-- `STA $nn`, 0x85 (R144) -/
  | staZp (b : Byte)
  /-- `STA $nnnn`, 0x8D (R144) -/
  | staAbs (w : Word)
  /-- `STA ($nn),Y`, 0x91 (R144) -/
  | staIndY (b : Byte)
  /-- `STA $nn,X`, 0x95 (R144) -/
  | staZpX (b : Byte)
  /-- `STA $nnnn,Y`, 0x99 (R144) -/
  | staAbsY (w : Word)
  /-- `STA $nnnn,X`, 0x9D (R144) -/
  | staAbsX (w : Word)
  /-- `STX $nn`, 0x86 (R145) -/
  | stxZp (b : Byte)
  /-- `STX $nnnn`, 0x8E (R145) -/
  | stxAbs (w : Word)
  /-- `STX $nn,Y`, 0x96 (R145) -/
  | stxZpY (b : Byte)
  /-- `STY $nn`, 0x84 (R146) -/
  | styZp (b : Byte)
  /-- `STY $nnnn`, 0x8C (R146) -/
  | styAbs (w : Word)
  /-- `STY $nn,X`, 0x94 (R146) -/
  | styZpX (b : Byte)
  /-- `TAX`, 0xAA (R147) -/
  | tax
  /-- `TAY`, 0xA8 (R148) -/
  | tay
  /-- `TXA`, 0x8A (R149) -/
  | txa
  /-- `TYA`, 0x98 (R150) -/
  | tya
  /-- `TSX`, 0xBA (R151) -/
  | tsx
  /-- `TXS`, 0x9A (R152) -/
  | txs
  -- arithmetic, logic, compare and bit test (R170 to R181)
  /-- `ADC ($nn,X)`, 0x61 (R171) -/
  | adcIndX (b : Byte)
  /-- `ADC $nn`, 0x65 (R171) -/
  | adcZp (b : Byte)
  /-- `ADC #$nn`, 0x69 (R171) -/
  | adcImm (b : Byte)
  /-- `ADC $nnnn`, 0x6D (R171) -/
  | adcAbs (w : Word)
  /-- `ADC ($nn),Y`, 0x71 (R171) -/
  | adcIndY (b : Byte)
  /-- `ADC $nn,X`, 0x75 (R171) -/
  | adcZpX (b : Byte)
  /-- `ADC $nnnn,Y`, 0x79 (R171) -/
  | adcAbsY (w : Word)
  /-- `ADC $nnnn,X`, 0x7D (R171) -/
  | adcAbsX (w : Word)
  /-- `SBC ($nn,X)`, 0xE1 (R172) -/
  | sbcIndX (b : Byte)
  /-- `SBC $nn`, 0xE5 (R172) -/
  | sbcZp (b : Byte)
  /-- `SBC #$nn`, 0xE9 (R172) -/
  | sbcImm (b : Byte)
  /-- `SBC $nnnn`, 0xED (R172) -/
  | sbcAbs (w : Word)
  /-- `SBC ($nn),Y`, 0xF1 (R172) -/
  | sbcIndY (b : Byte)
  /-- `SBC $nn,X`, 0xF5 (R172) -/
  | sbcZpX (b : Byte)
  /-- `SBC $nnnn,Y`, 0xF9 (R172) -/
  | sbcAbsY (w : Word)
  /-- `SBC $nnnn,X`, 0xFD (R172) -/
  | sbcAbsX (w : Word)
  /-- `AND ($nn,X)`, 0x21 (R173) -/
  | andIndX (b : Byte)
  /-- `AND $nn`, 0x25 (R173) -/
  | andZp (b : Byte)
  /-- `AND #$nn`, 0x29 (R173) -/
  | andImm (b : Byte)
  /-- `AND $nnnn`, 0x2D (R173) -/
  | andAbs (w : Word)
  /-- `AND ($nn),Y`, 0x31 (R173) -/
  | andIndY (b : Byte)
  /-- `AND $nn,X`, 0x35 (R173) -/
  | andZpX (b : Byte)
  /-- `AND $nnnn,Y`, 0x39 (R173) -/
  | andAbsY (w : Word)
  /-- `AND $nnnn,X`, 0x3D (R173) -/
  | andAbsX (w : Word)
  /-- `ORA ($nn,X)`, 0x01 (R174) -/
  | oraIndX (b : Byte)
  /-- `ORA $nn`, 0x05 (R174) -/
  | oraZp (b : Byte)
  /-- `ORA #$nn`, 0x09 (R174) -/
  | oraImm (b : Byte)
  /-- `ORA $nnnn`, 0x0D (R174) -/
  | oraAbs (w : Word)
  /-- `ORA ($nn),Y`, 0x11 (R174) -/
  | oraIndY (b : Byte)
  /-- `ORA $nn,X`, 0x15 (R174) -/
  | oraZpX (b : Byte)
  /-- `ORA $nnnn,Y`, 0x19 (R174) -/
  | oraAbsY (w : Word)
  /-- `ORA $nnnn,X`, 0x1D (R174) -/
  | oraAbsX (w : Word)
  /-- `EOR ($nn,X)`, 0x41 (R175) -/
  | eorIndX (b : Byte)
  /-- `EOR $nn`, 0x45 (R175) -/
  | eorZp (b : Byte)
  /-- `EOR #$nn`, 0x49 (R175) -/
  | eorImm (b : Byte)
  /-- `EOR $nnnn`, 0x4D (R175) -/
  | eorAbs (w : Word)
  /-- `EOR ($nn),Y`, 0x51 (R175) -/
  | eorIndY (b : Byte)
  /-- `EOR $nn,X`, 0x55 (R175) -/
  | eorZpX (b : Byte)
  /-- `EOR $nnnn,Y`, 0x59 (R175) -/
  | eorAbsY (w : Word)
  /-- `EOR $nnnn,X`, 0x5D (R175) -/
  | eorAbsX (w : Word)
  /-- `CMP ($nn,X)`, 0xC1 (R176) -/
  | cmpIndX (b : Byte)
  /-- `CMP $nn`, 0xC5 (R176) -/
  | cmpZp (b : Byte)
  /-- `CMP #$nn`, 0xC9 (R176) -/
  | cmpImm (b : Byte)
  /-- `CMP $nnnn`, 0xCD (R176) -/
  | cmpAbs (w : Word)
  /-- `CMP ($nn),Y`, 0xD1 (R176) -/
  | cmpIndY (b : Byte)
  /-- `CMP $nn,X`, 0xD5 (R176) -/
  | cmpZpX (b : Byte)
  /-- `CMP $nnnn,Y`, 0xD9 (R176) -/
  | cmpAbsY (w : Word)
  /-- `CMP $nnnn,X`, 0xDD (R176) -/
  | cmpAbsX (w : Word)
  /-- `CPX #$nn`, 0xE0 (R177) -/
  | cpxImm (b : Byte)
  /-- `CPX $nn`, 0xE4 (R177) -/
  | cpxZp (b : Byte)
  /-- `CPX $nnnn`, 0xEC (R177) -/
  | cpxAbs (w : Word)
  /-- `CPY #$nn`, 0xC0 (R178) -/
  | cpyImm (b : Byte)
  /-- `CPY $nn`, 0xC4 (R178) -/
  | cpyZp (b : Byte)
  /-- `CPY $nnnn`, 0xCC (R178) -/
  | cpyAbs (w : Word)
  /-- `BIT $nn`, 0x24 (R179) -/
  | bitZp (b : Byte)
  /-- `BIT $nnnn`, 0x2C (R179) -/
  | bitAbs (w : Word)
  -- shifts, rotates, increments and decrements (R190 to R200)
  /-- `ASL $nn`, 0x06 (R191) -/
  | aslZp (b : Byte)
  /-- `ASL A`, 0x0A (R191) -/
  | aslA
  /-- `ASL $nnnn`, 0x0E (R191) -/
  | aslAbs (w : Word)
  /-- `ASL $nn,X`, 0x16 (R191) -/
  | aslZpX (b : Byte)
  /-- `ASL $nnnn,X`, 0x1E (R191) -/
  | aslAbsX (w : Word)
  /-- `LSR $nn`, 0x46 (R192) -/
  | lsrZp (b : Byte)
  /-- `LSR A`, 0x4A (R192) -/
  | lsrA
  /-- `LSR $nnnn`, 0x4E (R192) -/
  | lsrAbs (w : Word)
  /-- `LSR $nn,X`, 0x56 (R192) -/
  | lsrZpX (b : Byte)
  /-- `LSR $nnnn,X`, 0x5E (R192) -/
  | lsrAbsX (w : Word)
  /-- `ROL $nn`, 0x26 (R193) -/
  | rolZp (b : Byte)
  /-- `ROL A`, 0x2A (R193) -/
  | rolA
  /-- `ROL $nnnn`, 0x2E (R193) -/
  | rolAbs (w : Word)
  /-- `ROL $nn,X`, 0x36 (R193) -/
  | rolZpX (b : Byte)
  /-- `ROL $nnnn,X`, 0x3E (R193) -/
  | rolAbsX (w : Word)
  /-- `ROR $nn`, 0x66 (R194) -/
  | rorZp (b : Byte)
  /-- `ROR A`, 0x6A (R194) -/
  | rorA
  /-- `ROR $nnnn`, 0x6E (R194) -/
  | rorAbs (w : Word)
  /-- `ROR $nn,X`, 0x76 (R194) -/
  | rorZpX (b : Byte)
  /-- `ROR $nnnn,X`, 0x7E (R194) -/
  | rorAbsX (w : Word)
  /-- `INC $nn`, 0xE6 (R195) -/
  | incZp (b : Byte)
  /-- `INC $nnnn`, 0xEE (R195) -/
  | incAbs (w : Word)
  /-- `INC $nn,X`, 0xF6 (R195) -/
  | incZpX (b : Byte)
  /-- `INC $nnnn,X`, 0xFE (R195) -/
  | incAbsX (w : Word)
  /-- `DEC $nn`, 0xC6 (R196) -/
  | decZp (b : Byte)
  /-- `DEC $nnnn`, 0xCE (R196) -/
  | decAbs (w : Word)
  /-- `DEC $nn,X`, 0xD6 (R196) -/
  | decZpX (b : Byte)
  /-- `DEC $nnnn,X`, 0xDE (R196) -/
  | decAbsX (w : Word)
  /-- `INX`, 0xE8 (R197) -/
  | inx
  /-- `INY`, 0xC8 (R198) -/
  | iny
  /-- `DEX`, 0xCA (R199) -/
  | dex
  /-- `DEY`, 0x88 (R200) -/
  | dey
  -- branches, jumps, calls and returns (R210 to R226)
  /-- `BPL label`, 0x10 (R211) -/
  | bpl (b : Byte)
  /-- `BMI label`, 0x30 (R212) -/
  | bmi (b : Byte)
  /-- `BVC label`, 0x50 (R213) -/
  | bvc (b : Byte)
  /-- `BVS label`, 0x70 (R214) -/
  | bvs (b : Byte)
  /-- `BCC label`, 0x90 (R215) -/
  | bcc (b : Byte)
  /-- `BCS label`, 0xB0 (R216) -/
  | bcs (b : Byte)
  /-- `BNE label`, 0xD0 (R217) -/
  | bne (b : Byte)
  /-- `BEQ label`, 0xF0 (R218) -/
  | beq (b : Byte)
  /-- `JMP $nnnn`, 0x4C (R219) -/
  | jmpAbs (w : Word)
  /-- `JMP ($nnnn)`, 0x6C (R220) -/
  | jmpInd (w : Word)
  /-- `JMP ($nnnn,X)`, 0x7C (R221) -/
  | jmpIndAbsX (w : Word)
  /-- `JSR $nnnn`, 0x20 (R222) -/
  | jsr (w : Word)
  /-- `RTS`, 0x60 (R223) -/
  | rts
  /-- `RTI`, 0x40 (R224) -/
  | rti
  -- stack, flags, NOP and BRK (R240 to R259)
  /-- `PHA`, 0x48 (R242) -/
  | pha
  /-- `PLA`, 0x68 (R243) -/
  | pla
  /-- `PHP`, 0x08 (R244) -/
  | php
  /-- `PLP`, 0x28 (R245) -/
  | plp
  /-- `PHX`, 0xDA (R246) -/
  | phx
  /-- `PLX`, 0xFA (R247) -/
  | plx
  /-- `PHY`, 0x5A (R248) -/
  | phy
  /-- `PLY`, 0x7A (R249) -/
  | ply
  /-- `CLC`, 0x18 (R250) -/
  | clc
  /-- `SEC`, 0x38 (R251) -/
  | sec
  /-- `CLI`, 0x58 (R252) -/
  | cli
  /-- `SEI`, 0x78 (R253) -/
  | sei
  /-- `CLD`, 0xD8 (R254) -/
  | cld
  /-- `SED`, 0xF8 (R255) -/
  | sed
  /-- `CLV`, 0xB8 (R256) -/
  | clv
  /-- `NOP`, 0xEA (R257) -/
  | nop
  /-- `BRK`, 0x00 (R258) -/
  | brk
  -- optional 65C02 instructions (R270 to R279)
  /-- `BRA label`, 0x80 (R271) -/
  | bra (b : Byte)
  /-- `STZ $nn`, 0x64 (R272) -/
  | stzZp (b : Byte)
  /-- `STZ $nn,X`, 0x74 (R272) -/
  | stzZpX (b : Byte)
  /-- `STZ $nnnn`, 0x9C (R272) -/
  | stzAbs (w : Word)
  /-- `STZ $nnnn,X`, 0x9E (R272) -/
  | stzAbsX (w : Word)
  /-- `INC A`, 0x1A (R274) -/
  | incA
  /-- `DEC A`, 0x3A (R275) -/
  | decA
  /-- `BIT $nn,X`, 0x34 (R276) -/
  | bitZpX (b : Byte)
  /-- `BIT $nnnn,X`, 0x3C (R276) -/
  | bitAbsX (w : Word)
  /-- `BIT #$nn`, 0x89 (R276) -/
  | bitImm (b : Byte)
  /-- `TSB $nn`, 0x04 (R277) -/
  | tsbZp (b : Byte)
  /-- `TSB $nnnn`, 0x0C (R277) -/
  | tsbAbs (w : Word)
  /-- `TRB $nn`, 0x14 (R278) -/
  | trbZp (b : Byte)
  /-- `TRB $nnnn`, 0x1C (R278) -/
  | trbAbs (w : Word)
deriving DecidableEq, Repr

/-- The operation selector of an instruction (R83, R86). -/
def Instr.mnemonic : Instr → Mnemonic
  | .brk => .brk
  | .oraIndX _ => .ora
  | .tsbZp _ => .tsb
  | .oraZp _ => .ora
  | .aslZp _ => .asl
  | .php => .php
  | .oraImm _ => .ora
  | .aslA => .asl
  | .tsbAbs _ => .tsb
  | .oraAbs _ => .ora
  | .aslAbs _ => .asl
  | .bpl _ => .bpl
  | .oraIndY _ => .ora
  | .trbZp _ => .trb
  | .oraZpX _ => .ora
  | .aslZpX _ => .asl
  | .clc => .clc
  | .oraAbsY _ => .ora
  | .incA => .inc
  | .trbAbs _ => .trb
  | .oraAbsX _ => .ora
  | .aslAbsX _ => .asl
  | .jsr _ => .jsr
  | .andIndX _ => .and
  | .bitZp _ => .bit
  | .andZp _ => .and
  | .rolZp _ => .rol
  | .plp => .plp
  | .andImm _ => .and
  | .rolA => .rol
  | .bitAbs _ => .bit
  | .andAbs _ => .and
  | .rolAbs _ => .rol
  | .bmi _ => .bmi
  | .andIndY _ => .and
  | .bitZpX _ => .bit
  | .andZpX _ => .and
  | .rolZpX _ => .rol
  | .sec => .sec
  | .andAbsY _ => .and
  | .decA => .dec
  | .bitAbsX _ => .bit
  | .andAbsX _ => .and
  | .rolAbsX _ => .rol
  | .rti => .rti
  | .eorIndX _ => .eor
  | .eorZp _ => .eor
  | .lsrZp _ => .lsr
  | .pha => .pha
  | .eorImm _ => .eor
  | .lsrA => .lsr
  | .jmpAbs _ => .jmp
  | .eorAbs _ => .eor
  | .lsrAbs _ => .lsr
  | .bvc _ => .bvc
  | .eorIndY _ => .eor
  | .eorZpX _ => .eor
  | .lsrZpX _ => .lsr
  | .cli => .cli
  | .eorAbsY _ => .eor
  | .phy => .phy
  | .eorAbsX _ => .eor
  | .lsrAbsX _ => .lsr
  | .rts => .rts
  | .adcIndX _ => .adc
  | .stzZp _ => .stz
  | .adcZp _ => .adc
  | .rorZp _ => .ror
  | .pla => .pla
  | .adcImm _ => .adc
  | .rorA => .ror
  | .jmpInd _ => .jmp
  | .adcAbs _ => .adc
  | .rorAbs _ => .ror
  | .bvs _ => .bvs
  | .adcIndY _ => .adc
  | .stzZpX _ => .stz
  | .adcZpX _ => .adc
  | .rorZpX _ => .ror
  | .sei => .sei
  | .adcAbsY _ => .adc
  | .ply => .ply
  | .jmpIndAbsX _ => .jmp
  | .adcAbsX _ => .adc
  | .rorAbsX _ => .ror
  | .bra _ => .bra
  | .staIndX _ => .sta
  | .styZp _ => .sty
  | .staZp _ => .sta
  | .stxZp _ => .stx
  | .dey => .dey
  | .bitImm _ => .bit
  | .txa => .txa
  | .styAbs _ => .sty
  | .staAbs _ => .sta
  | .stxAbs _ => .stx
  | .bcc _ => .bcc
  | .staIndY _ => .sta
  | .styZpX _ => .sty
  | .staZpX _ => .sta
  | .stxZpY _ => .stx
  | .tya => .tya
  | .staAbsY _ => .sta
  | .txs => .txs
  | .stzAbs _ => .stz
  | .staAbsX _ => .sta
  | .stzAbsX _ => .stz
  | .ldyImm _ => .ldy
  | .ldaIndX _ => .lda
  | .ldxImm _ => .ldx
  | .ldyZp _ => .ldy
  | .ldaZp _ => .lda
  | .ldxZp _ => .ldx
  | .tay => .tay
  | .ldaImm _ => .lda
  | .tax => .tax
  | .ldyAbs _ => .ldy
  | .ldaAbs _ => .lda
  | .ldxAbs _ => .ldx
  | .bcs _ => .bcs
  | .ldaIndY _ => .lda
  | .ldyZpX _ => .ldy
  | .ldaZpX _ => .lda
  | .ldxZpY _ => .ldx
  | .clv => .clv
  | .ldaAbsY _ => .lda
  | .tsx => .tsx
  | .ldyAbsX _ => .ldy
  | .ldaAbsX _ => .lda
  | .ldxAbsY _ => .ldx
  | .cpyImm _ => .cpy
  | .cmpIndX _ => .cmp
  | .cpyZp _ => .cpy
  | .cmpZp _ => .cmp
  | .decZp _ => .dec
  | .iny => .iny
  | .cmpImm _ => .cmp
  | .dex => .dex
  | .cpyAbs _ => .cpy
  | .cmpAbs _ => .cmp
  | .decAbs _ => .dec
  | .bne _ => .bne
  | .cmpIndY _ => .cmp
  | .cmpZpX _ => .cmp
  | .decZpX _ => .dec
  | .cld => .cld
  | .cmpAbsY _ => .cmp
  | .phx => .phx
  | .cmpAbsX _ => .cmp
  | .decAbsX _ => .dec
  | .cpxImm _ => .cpx
  | .sbcIndX _ => .sbc
  | .cpxZp _ => .cpx
  | .sbcZp _ => .sbc
  | .incZp _ => .inc
  | .inx => .inx
  | .sbcImm _ => .sbc
  | .nop => .nop
  | .cpxAbs _ => .cpx
  | .sbcAbs _ => .sbc
  | .incAbs _ => .inc
  | .beq _ => .beq
  | .sbcIndY _ => .sbc
  | .sbcZpX _ => .sbc
  | .incZpX _ => .inc
  | .sed => .sed
  | .sbcAbsY _ => .sbc
  | .plx => .plx
  | .sbcAbsX _ => .sbc
  | .incAbsX _ => .inc

/-- The addressing-mode selector of an instruction (R83, R85). -/
def Instr.mode : Instr → Mode
  | .brk => .imp
  | .oraIndX _ => .indx
  | .tsbZp _ => .zp
  | .oraZp _ => .zp
  | .aslZp _ => .zp
  | .php => .imp
  | .oraImm _ => .imm
  | .aslA => .acc
  | .tsbAbs _ => .abs
  | .oraAbs _ => .abs
  | .aslAbs _ => .abs
  | .bpl _ => .rel
  | .oraIndY _ => .indy
  | .trbZp _ => .zp
  | .oraZpX _ => .zpx
  | .aslZpX _ => .zpx
  | .clc => .imp
  | .oraAbsY _ => .absy
  | .incA => .acc
  | .trbAbs _ => .abs
  | .oraAbsX _ => .absx
  | .aslAbsX _ => .absx
  | .jsr _ => .abs
  | .andIndX _ => .indx
  | .bitZp _ => .zp
  | .andZp _ => .zp
  | .rolZp _ => .zp
  | .plp => .imp
  | .andImm _ => .imm
  | .rolA => .acc
  | .bitAbs _ => .abs
  | .andAbs _ => .abs
  | .rolAbs _ => .abs
  | .bmi _ => .rel
  | .andIndY _ => .indy
  | .bitZpX _ => .zpx
  | .andZpX _ => .zpx
  | .rolZpX _ => .zpx
  | .sec => .imp
  | .andAbsY _ => .absy
  | .decA => .acc
  | .bitAbsX _ => .absx
  | .andAbsX _ => .absx
  | .rolAbsX _ => .absx
  | .rti => .imp
  | .eorIndX _ => .indx
  | .eorZp _ => .zp
  | .lsrZp _ => .zp
  | .pha => .imp
  | .eorImm _ => .imm
  | .lsrA => .acc
  | .jmpAbs _ => .abs
  | .eorAbs _ => .abs
  | .lsrAbs _ => .abs
  | .bvc _ => .rel
  | .eorIndY _ => .indy
  | .eorZpX _ => .zpx
  | .lsrZpX _ => .zpx
  | .cli => .imp
  | .eorAbsY _ => .absy
  | .phy => .imp
  | .eorAbsX _ => .absx
  | .lsrAbsX _ => .absx
  | .rts => .imp
  | .adcIndX _ => .indx
  | .stzZp _ => .zp
  | .adcZp _ => .zp
  | .rorZp _ => .zp
  | .pla => .imp
  | .adcImm _ => .imm
  | .rorA => .acc
  | .jmpInd _ => .ind
  | .adcAbs _ => .abs
  | .rorAbs _ => .abs
  | .bvs _ => .rel
  | .adcIndY _ => .indy
  | .stzZpX _ => .zpx
  | .adcZpX _ => .zpx
  | .rorZpX _ => .zpx
  | .sei => .imp
  | .adcAbsY _ => .absy
  | .ply => .imp
  | .jmpIndAbsX _ => .indabsx
  | .adcAbsX _ => .absx
  | .rorAbsX _ => .absx
  | .bra _ => .rel
  | .staIndX _ => .indx
  | .styZp _ => .zp
  | .staZp _ => .zp
  | .stxZp _ => .zp
  | .dey => .imp
  | .bitImm _ => .imm
  | .txa => .imp
  | .styAbs _ => .abs
  | .staAbs _ => .abs
  | .stxAbs _ => .abs
  | .bcc _ => .rel
  | .staIndY _ => .indy
  | .styZpX _ => .zpx
  | .staZpX _ => .zpx
  | .stxZpY _ => .zpy
  | .tya => .imp
  | .staAbsY _ => .absy
  | .txs => .imp
  | .stzAbs _ => .abs
  | .staAbsX _ => .absx
  | .stzAbsX _ => .absx
  | .ldyImm _ => .imm
  | .ldaIndX _ => .indx
  | .ldxImm _ => .imm
  | .ldyZp _ => .zp
  | .ldaZp _ => .zp
  | .ldxZp _ => .zp
  | .tay => .imp
  | .ldaImm _ => .imm
  | .tax => .imp
  | .ldyAbs _ => .abs
  | .ldaAbs _ => .abs
  | .ldxAbs _ => .abs
  | .bcs _ => .rel
  | .ldaIndY _ => .indy
  | .ldyZpX _ => .zpx
  | .ldaZpX _ => .zpx
  | .ldxZpY _ => .zpy
  | .clv => .imp
  | .ldaAbsY _ => .absy
  | .tsx => .imp
  | .ldyAbsX _ => .absx
  | .ldaAbsX _ => .absx
  | .ldxAbsY _ => .absy
  | .cpyImm _ => .imm
  | .cmpIndX _ => .indx
  | .cpyZp _ => .zp
  | .cmpZp _ => .zp
  | .decZp _ => .zp
  | .iny => .imp
  | .cmpImm _ => .imm
  | .dex => .imp
  | .cpyAbs _ => .abs
  | .cmpAbs _ => .abs
  | .decAbs _ => .abs
  | .bne _ => .rel
  | .cmpIndY _ => .indy
  | .cmpZpX _ => .zpx
  | .decZpX _ => .zpx
  | .cld => .imp
  | .cmpAbsY _ => .absy
  | .phx => .imp
  | .cmpAbsX _ => .absx
  | .decAbsX _ => .absx
  | .cpxImm _ => .imm
  | .sbcIndX _ => .indx
  | .cpxZp _ => .zp
  | .sbcZp _ => .zp
  | .incZp _ => .zp
  | .inx => .imp
  | .sbcImm _ => .imm
  | .nop => .imp
  | .cpxAbs _ => .abs
  | .sbcAbs _ => .abs
  | .incAbs _ => .abs
  | .beq _ => .rel
  | .sbcIndY _ => .indy
  | .sbcZpX _ => .zpx
  | .incZpX _ => .zpx
  | .sed => .imp
  | .sbcAbsY _ => .absy
  | .plx => .imp
  | .sbcAbsX _ => .absx
  | .incAbsX _ => .absx

end Sys2Proof
end

