-- ==== Sys2Proof/WellFormed.lean ====
section
/-! DEFINITION. Which instructions exist in a configuration. Every operand has exactly the width of its field by its
type, so the one check is the group's: an instruction of `c02_optional` needs `C02_EXTRA` (R84, R270). -/

namespace Sys2Proof

/-- The group of an instruction (R84; the marks of the opcode map R85). -/
def Instr.group : Instr → Group
  | .brk => .base
  | .oraIndX _ => .base
  | .tsbZp _ => .c02Optional
  | .oraZp _ => .base
  | .aslZp _ => .base
  | .php => .base
  | .oraImm _ => .base
  | .aslA => .base
  | .tsbAbs _ => .c02Optional
  | .oraAbs _ => .base
  | .aslAbs _ => .base
  | .bpl _ => .base
  | .oraIndY _ => .base
  | .trbZp _ => .c02Optional
  | .oraZpX _ => .base
  | .aslZpX _ => .base
  | .clc => .base
  | .oraAbsY _ => .base
  | .incA => .c02Optional
  | .trbAbs _ => .c02Optional
  | .oraAbsX _ => .base
  | .aslAbsX _ => .base
  | .jsr _ => .base
  | .andIndX _ => .base
  | .bitZp _ => .base
  | .andZp _ => .base
  | .rolZp _ => .base
  | .plp => .base
  | .andImm _ => .base
  | .rolA => .base
  | .bitAbs _ => .base
  | .andAbs _ => .base
  | .rolAbs _ => .base
  | .bmi _ => .base
  | .andIndY _ => .base
  | .bitZpX _ => .c02Optional
  | .andZpX _ => .base
  | .rolZpX _ => .base
  | .sec => .base
  | .andAbsY _ => .base
  | .decA => .c02Optional
  | .bitAbsX _ => .c02Optional
  | .andAbsX _ => .base
  | .rolAbsX _ => .base
  | .rti => .base
  | .eorIndX _ => .base
  | .eorZp _ => .base
  | .lsrZp _ => .base
  | .pha => .base
  | .eorImm _ => .base
  | .lsrA => .base
  | .jmpAbs _ => .base
  | .eorAbs _ => .base
  | .lsrAbs _ => .base
  | .bvc _ => .base
  | .eorIndY _ => .base
  | .eorZpX _ => .base
  | .lsrZpX _ => .base
  | .cli => .base
  | .eorAbsY _ => .base
  | .phy => .c02Named
  | .eorAbsX _ => .base
  | .lsrAbsX _ => .base
  | .rts => .base
  | .adcIndX _ => .base
  | .stzZp _ => .c02Optional
  | .adcZp _ => .base
  | .rorZp _ => .base
  | .pla => .base
  | .adcImm _ => .base
  | .rorA => .base
  | .jmpInd _ => .base
  | .adcAbs _ => .base
  | .rorAbs _ => .base
  | .bvs _ => .base
  | .adcIndY _ => .base
  | .stzZpX _ => .c02Optional
  | .adcZpX _ => .base
  | .rorZpX _ => .base
  | .sei => .base
  | .adcAbsY _ => .base
  | .ply => .c02Named
  | .jmpIndAbsX _ => .c02Named
  | .adcAbsX _ => .base
  | .rorAbsX _ => .base
  | .bra _ => .c02Optional
  | .staIndX _ => .base
  | .styZp _ => .base
  | .staZp _ => .base
  | .stxZp _ => .base
  | .dey => .base
  | .bitImm _ => .c02Optional
  | .txa => .base
  | .styAbs _ => .base
  | .staAbs _ => .base
  | .stxAbs _ => .base
  | .bcc _ => .base
  | .staIndY _ => .base
  | .styZpX _ => .base
  | .staZpX _ => .base
  | .stxZpY _ => .base
  | .tya => .base
  | .staAbsY _ => .base
  | .txs => .base
  | .stzAbs _ => .c02Optional
  | .staAbsX _ => .base
  | .stzAbsX _ => .c02Optional
  | .ldyImm _ => .base
  | .ldaIndX _ => .base
  | .ldxImm _ => .base
  | .ldyZp _ => .base
  | .ldaZp _ => .base
  | .ldxZp _ => .base
  | .tay => .base
  | .ldaImm _ => .base
  | .tax => .base
  | .ldyAbs _ => .base
  | .ldaAbs _ => .base
  | .ldxAbs _ => .base
  | .bcs _ => .base
  | .ldaIndY _ => .base
  | .ldyZpX _ => .base
  | .ldaZpX _ => .base
  | .ldxZpY _ => .base
  | .clv => .base
  | .ldaAbsY _ => .base
  | .tsx => .base
  | .ldyAbsX _ => .base
  | .ldaAbsX _ => .base
  | .ldxAbsY _ => .base
  | .cpyImm _ => .base
  | .cmpIndX _ => .base
  | .cpyZp _ => .base
  | .cmpZp _ => .base
  | .decZp _ => .base
  | .iny => .base
  | .cmpImm _ => .base
  | .dex => .base
  | .cpyAbs _ => .base
  | .cmpAbs _ => .base
  | .decAbs _ => .base
  | .bne _ => .base
  | .cmpIndY _ => .base
  | .cmpZpX _ => .base
  | .decZpX _ => .base
  | .cld => .base
  | .cmpAbsY _ => .base
  | .phx => .c02Named
  | .cmpAbsX _ => .base
  | .decAbsX _ => .base
  | .cpxImm _ => .base
  | .sbcIndX _ => .base
  | .cpxZp _ => .base
  | .sbcZp _ => .base
  | .incZp _ => .base
  | .inx => .base
  | .sbcImm _ => .base
  | .nop => .base
  | .cpxAbs _ => .base
  | .sbcAbs _ => .base
  | .incAbs _ => .base
  | .beq _ => .base
  | .sbcIndY _ => .base
  | .sbcZpX _ => .base
  | .incZpX _ => .base
  | .sed => .base
  | .sbcAbsY _ => .base
  | .plx => .c02Named
  | .sbcAbsX _ => .base
  | .incAbsX _ => .base

/-- A group is admitted always, except `c02_optional`, which needs `C02_EXTRA` (R84, R270). -/
def Group.admitted (c02Extra : Bool) : Group → Bool
  | .base => true
  | .c02Named => true
  | .c02Optional => c02Extra

/-- The instruction exists in a machine with this value of `C02_EXTRA`. -/
def Instr.wellFormed (c02Extra : Bool) (i : Instr) : Bool := i.group.admitted c02Extra

end Sys2Proof
end

