-- ==== Sys2Proof/Decode.lean ====
section
/-! DEFINITION. The decode tables (R83 of `30_encoding.md`), the decoder, total on any bytes and rejecting by name,
and the encoder, written from the same map R85, R86. The opcode bytes, base cycles and page-cross marks are the
spec's, which takes them from general knowledge (log 11). -/

namespace Sys2Proof

open Machine

/-- Operand bytes of each mode (R81). -/
def Mode.operandBytes : Mode → Nat
  | .imp => 0
  | .acc => 0
  | .imm => 1
  | .zp => 1
  | .zpx => 1
  | .zpy => 1
  | .abs => 2
  | .absx => 2
  | .absy => 2
  | .indx => 1
  | .indy => 1
  | .ind => 2
  | .indabsx => 2
  | .rel => 1

/-- The three formats of R80, each with the instruction its operand bytes complete. -/
inductive Form where
  /-- F0: the opcode alone. -/
  | f0 (i : Instr)
  /-- F1: one operand byte. -/
  | f1 (mk : Byte → Instr)
  /-- F2: two operand bytes, the low one first. -/
  | f2 (mk : Word → Instr)

/-- One row of the parallel tables of R83: mode, operation, base cycle count (R350), membership of the default
`PAGE_CROSS_SET` (R351) and group (R84) of an opcode. -/
structure Row where
  opcode : Byte
  mode : Mode
  base : Nat
  cross : Bool
  group : Group
  form : Form

/-- The rows of the opcode map R85 whose high nibble is given, in the order of their low nibble. -/
def opcodeRow (hiNibble : Nat) : List Row :=
  match hiNibble with
  | 0x0 => [
      ⟨0x00, .imp, 7, false, .base, .f0 .brk⟩,
      ⟨0x01, .indx, 6, false, .base, .f1 .oraIndX⟩,
      ⟨0x04, .zp, 5, false, .c02Optional, .f1 .tsbZp⟩,
      ⟨0x05, .zp, 3, false, .base, .f1 .oraZp⟩,
      ⟨0x06, .zp, 5, false, .base, .f1 .aslZp⟩,
      ⟨0x08, .imp, 3, false, .base, .f0 .php⟩,
      ⟨0x09, .imm, 2, false, .base, .f1 .oraImm⟩,
      ⟨0x0A, .acc, 2, false, .base, .f0 .aslA⟩,
      ⟨0x0C, .abs, 6, false, .c02Optional, .f2 .tsbAbs⟩,
      ⟨0x0D, .abs, 4, false, .base, .f2 .oraAbs⟩,
      ⟨0x0E, .abs, 6, false, .base, .f2 .aslAbs⟩]
  | 0x1 => [
      ⟨0x10, .rel, 2, false, .base, .f1 .bpl⟩,
      ⟨0x11, .indy, 5, true, .base, .f1 .oraIndY⟩,
      ⟨0x14, .zp, 5, false, .c02Optional, .f1 .trbZp⟩,
      ⟨0x15, .zpx, 4, false, .base, .f1 .oraZpX⟩,
      ⟨0x16, .zpx, 6, false, .base, .f1 .aslZpX⟩,
      ⟨0x18, .imp, 2, false, .base, .f0 .clc⟩,
      ⟨0x19, .absy, 4, true, .base, .f2 .oraAbsY⟩,
      ⟨0x1A, .acc, 2, false, .c02Optional, .f0 .incA⟩,
      ⟨0x1C, .abs, 6, false, .c02Optional, .f2 .trbAbs⟩,
      ⟨0x1D, .absx, 4, true, .base, .f2 .oraAbsX⟩,
      ⟨0x1E, .absx, 7, false, .base, .f2 .aslAbsX⟩]
  | 0x2 => [
      ⟨0x20, .abs, 6, false, .base, .f2 .jsr⟩,
      ⟨0x21, .indx, 6, false, .base, .f1 .andIndX⟩,
      ⟨0x24, .zp, 3, false, .base, .f1 .bitZp⟩,
      ⟨0x25, .zp, 3, false, .base, .f1 .andZp⟩,
      ⟨0x26, .zp, 5, false, .base, .f1 .rolZp⟩,
      ⟨0x28, .imp, 4, false, .base, .f0 .plp⟩,
      ⟨0x29, .imm, 2, false, .base, .f1 .andImm⟩,
      ⟨0x2A, .acc, 2, false, .base, .f0 .rolA⟩,
      ⟨0x2C, .abs, 4, false, .base, .f2 .bitAbs⟩,
      ⟨0x2D, .abs, 4, false, .base, .f2 .andAbs⟩,
      ⟨0x2E, .abs, 6, false, .base, .f2 .rolAbs⟩]
  | 0x3 => [
      ⟨0x30, .rel, 2, false, .base, .f1 .bmi⟩,
      ⟨0x31, .indy, 5, true, .base, .f1 .andIndY⟩,
      ⟨0x34, .zpx, 4, false, .c02Optional, .f1 .bitZpX⟩,
      ⟨0x35, .zpx, 4, false, .base, .f1 .andZpX⟩,
      ⟨0x36, .zpx, 6, false, .base, .f1 .rolZpX⟩,
      ⟨0x38, .imp, 2, false, .base, .f0 .sec⟩,
      ⟨0x39, .absy, 4, true, .base, .f2 .andAbsY⟩,
      ⟨0x3A, .acc, 2, false, .c02Optional, .f0 .decA⟩,
      ⟨0x3C, .absx, 4, true, .c02Optional, .f2 .bitAbsX⟩,
      ⟨0x3D, .absx, 4, true, .base, .f2 .andAbsX⟩,
      ⟨0x3E, .absx, 7, false, .base, .f2 .rolAbsX⟩]
  | 0x4 => [
      ⟨0x40, .imp, 6, false, .base, .f0 .rti⟩,
      ⟨0x41, .indx, 6, false, .base, .f1 .eorIndX⟩,
      ⟨0x45, .zp, 3, false, .base, .f1 .eorZp⟩,
      ⟨0x46, .zp, 5, false, .base, .f1 .lsrZp⟩,
      ⟨0x48, .imp, 3, false, .base, .f0 .pha⟩,
      ⟨0x49, .imm, 2, false, .base, .f1 .eorImm⟩,
      ⟨0x4A, .acc, 2, false, .base, .f0 .lsrA⟩,
      ⟨0x4C, .abs, 3, false, .base, .f2 .jmpAbs⟩,
      ⟨0x4D, .abs, 4, false, .base, .f2 .eorAbs⟩,
      ⟨0x4E, .abs, 6, false, .base, .f2 .lsrAbs⟩]
  | 0x5 => [
      ⟨0x50, .rel, 2, false, .base, .f1 .bvc⟩,
      ⟨0x51, .indy, 5, true, .base, .f1 .eorIndY⟩,
      ⟨0x55, .zpx, 4, false, .base, .f1 .eorZpX⟩,
      ⟨0x56, .zpx, 6, false, .base, .f1 .lsrZpX⟩,
      ⟨0x58, .imp, 2, false, .base, .f0 .cli⟩,
      ⟨0x59, .absy, 4, true, .base, .f2 .eorAbsY⟩,
      ⟨0x5A, .imp, 3, false, .c02Named, .f0 .phy⟩,
      ⟨0x5D, .absx, 4, true, .base, .f2 .eorAbsX⟩,
      ⟨0x5E, .absx, 7, false, .base, .f2 .lsrAbsX⟩]
  | 0x6 => [
      ⟨0x60, .imp, 6, false, .base, .f0 .rts⟩,
      ⟨0x61, .indx, 6, false, .base, .f1 .adcIndX⟩,
      ⟨0x64, .zp, 3, false, .c02Optional, .f1 .stzZp⟩,
      ⟨0x65, .zp, 3, false, .base, .f1 .adcZp⟩,
      ⟨0x66, .zp, 5, false, .base, .f1 .rorZp⟩,
      ⟨0x68, .imp, 4, false, .base, .f0 .pla⟩,
      ⟨0x69, .imm, 2, false, .base, .f1 .adcImm⟩,
      ⟨0x6A, .acc, 2, false, .base, .f0 .rorA⟩,
      ⟨0x6C, .ind, 5, false, .base, .f2 .jmpInd⟩,
      ⟨0x6D, .abs, 4, false, .base, .f2 .adcAbs⟩,
      ⟨0x6E, .abs, 6, false, .base, .f2 .rorAbs⟩]
  | 0x7 => [
      ⟨0x70, .rel, 2, false, .base, .f1 .bvs⟩,
      ⟨0x71, .indy, 5, true, .base, .f1 .adcIndY⟩,
      ⟨0x74, .zpx, 4, false, .c02Optional, .f1 .stzZpX⟩,
      ⟨0x75, .zpx, 4, false, .base, .f1 .adcZpX⟩,
      ⟨0x76, .zpx, 6, false, .base, .f1 .rorZpX⟩,
      ⟨0x78, .imp, 2, false, .base, .f0 .sei⟩,
      ⟨0x79, .absy, 4, true, .base, .f2 .adcAbsY⟩,
      ⟨0x7A, .imp, 4, false, .c02Named, .f0 .ply⟩,
      ⟨0x7C, .indabsx, 6, false, .c02Named, .f2 .jmpIndAbsX⟩,
      ⟨0x7D, .absx, 4, true, .base, .f2 .adcAbsX⟩,
      ⟨0x7E, .absx, 7, false, .base, .f2 .rorAbsX⟩]
  | 0x8 => [
      ⟨0x80, .rel, 2, false, .c02Optional, .f1 .bra⟩,
      ⟨0x81, .indx, 6, false, .base, .f1 .staIndX⟩,
      ⟨0x84, .zp, 3, false, .base, .f1 .styZp⟩,
      ⟨0x85, .zp, 3, false, .base, .f1 .staZp⟩,
      ⟨0x86, .zp, 3, false, .base, .f1 .stxZp⟩,
      ⟨0x88, .imp, 2, false, .base, .f0 .dey⟩,
      ⟨0x89, .imm, 2, false, .c02Optional, .f1 .bitImm⟩,
      ⟨0x8A, .imp, 2, false, .base, .f0 .txa⟩,
      ⟨0x8C, .abs, 4, false, .base, .f2 .styAbs⟩,
      ⟨0x8D, .abs, 4, false, .base, .f2 .staAbs⟩,
      ⟨0x8E, .abs, 4, false, .base, .f2 .stxAbs⟩]
  | 0x9 => [
      ⟨0x90, .rel, 2, false, .base, .f1 .bcc⟩,
      ⟨0x91, .indy, 6, false, .base, .f1 .staIndY⟩,
      ⟨0x94, .zpx, 4, false, .base, .f1 .styZpX⟩,
      ⟨0x95, .zpx, 4, false, .base, .f1 .staZpX⟩,
      ⟨0x96, .zpy, 4, false, .base, .f1 .stxZpY⟩,
      ⟨0x98, .imp, 2, false, .base, .f0 .tya⟩,
      ⟨0x99, .absy, 5, false, .base, .f2 .staAbsY⟩,
      ⟨0x9A, .imp, 2, false, .base, .f0 .txs⟩,
      ⟨0x9C, .abs, 4, false, .c02Optional, .f2 .stzAbs⟩,
      ⟨0x9D, .absx, 5, false, .base, .f2 .staAbsX⟩,
      ⟨0x9E, .absx, 5, false, .c02Optional, .f2 .stzAbsX⟩]
  | 0xA => [
      ⟨0xA0, .imm, 2, false, .base, .f1 .ldyImm⟩,
      ⟨0xA1, .indx, 6, false, .base, .f1 .ldaIndX⟩,
      ⟨0xA2, .imm, 2, false, .base, .f1 .ldxImm⟩,
      ⟨0xA4, .zp, 3, false, .base, .f1 .ldyZp⟩,
      ⟨0xA5, .zp, 3, false, .base, .f1 .ldaZp⟩,
      ⟨0xA6, .zp, 3, false, .base, .f1 .ldxZp⟩,
      ⟨0xA8, .imp, 2, false, .base, .f0 .tay⟩,
      ⟨0xA9, .imm, 2, false, .base, .f1 .ldaImm⟩,
      ⟨0xAA, .imp, 2, false, .base, .f0 .tax⟩,
      ⟨0xAC, .abs, 4, false, .base, .f2 .ldyAbs⟩,
      ⟨0xAD, .abs, 4, false, .base, .f2 .ldaAbs⟩,
      ⟨0xAE, .abs, 4, false, .base, .f2 .ldxAbs⟩]
  | 0xB => [
      ⟨0xB0, .rel, 2, false, .base, .f1 .bcs⟩,
      ⟨0xB1, .indy, 5, true, .base, .f1 .ldaIndY⟩,
      ⟨0xB4, .zpx, 4, false, .base, .f1 .ldyZpX⟩,
      ⟨0xB5, .zpx, 4, false, .base, .f1 .ldaZpX⟩,
      ⟨0xB6, .zpy, 4, false, .base, .f1 .ldxZpY⟩,
      ⟨0xB8, .imp, 2, false, .base, .f0 .clv⟩,
      ⟨0xB9, .absy, 4, true, .base, .f2 .ldaAbsY⟩,
      ⟨0xBA, .imp, 2, false, .base, .f0 .tsx⟩,
      ⟨0xBC, .absx, 4, true, .base, .f2 .ldyAbsX⟩,
      ⟨0xBD, .absx, 4, true, .base, .f2 .ldaAbsX⟩,
      ⟨0xBE, .absy, 4, true, .base, .f2 .ldxAbsY⟩]
  | 0xC => [
      ⟨0xC0, .imm, 2, false, .base, .f1 .cpyImm⟩,
      ⟨0xC1, .indx, 6, false, .base, .f1 .cmpIndX⟩,
      ⟨0xC4, .zp, 3, false, .base, .f1 .cpyZp⟩,
      ⟨0xC5, .zp, 3, false, .base, .f1 .cmpZp⟩,
      ⟨0xC6, .zp, 5, false, .base, .f1 .decZp⟩,
      ⟨0xC8, .imp, 2, false, .base, .f0 .iny⟩,
      ⟨0xC9, .imm, 2, false, .base, .f1 .cmpImm⟩,
      ⟨0xCA, .imp, 2, false, .base, .f0 .dex⟩,
      ⟨0xCC, .abs, 4, false, .base, .f2 .cpyAbs⟩,
      ⟨0xCD, .abs, 4, false, .base, .f2 .cmpAbs⟩,
      ⟨0xCE, .abs, 6, false, .base, .f2 .decAbs⟩]
  | 0xD => [
      ⟨0xD0, .rel, 2, false, .base, .f1 .bne⟩,
      ⟨0xD1, .indy, 5, true, .base, .f1 .cmpIndY⟩,
      ⟨0xD5, .zpx, 4, false, .base, .f1 .cmpZpX⟩,
      ⟨0xD6, .zpx, 6, false, .base, .f1 .decZpX⟩,
      ⟨0xD8, .imp, 2, false, .base, .f0 .cld⟩,
      ⟨0xD9, .absy, 4, true, .base, .f2 .cmpAbsY⟩,
      ⟨0xDA, .imp, 3, false, .c02Named, .f0 .phx⟩,
      ⟨0xDD, .absx, 4, true, .base, .f2 .cmpAbsX⟩,
      ⟨0xDE, .absx, 7, false, .base, .f2 .decAbsX⟩]
  | 0xE => [
      ⟨0xE0, .imm, 2, false, .base, .f1 .cpxImm⟩,
      ⟨0xE1, .indx, 6, false, .base, .f1 .sbcIndX⟩,
      ⟨0xE4, .zp, 3, false, .base, .f1 .cpxZp⟩,
      ⟨0xE5, .zp, 3, false, .base, .f1 .sbcZp⟩,
      ⟨0xE6, .zp, 5, false, .base, .f1 .incZp⟩,
      ⟨0xE8, .imp, 2, false, .base, .f0 .inx⟩,
      ⟨0xE9, .imm, 2, false, .base, .f1 .sbcImm⟩,
      ⟨0xEA, .imp, 2, false, .base, .f0 .nop⟩,
      ⟨0xEC, .abs, 4, false, .base, .f2 .cpxAbs⟩,
      ⟨0xED, .abs, 4, false, .base, .f2 .sbcAbs⟩,
      ⟨0xEE, .abs, 6, false, .base, .f2 .incAbs⟩]
  | 0xF => [
      ⟨0xF0, .rel, 2, false, .base, .f1 .beq⟩,
      ⟨0xF1, .indy, 5, true, .base, .f1 .sbcIndY⟩,
      ⟨0xF5, .zpx, 4, false, .base, .f1 .sbcZpX⟩,
      ⟨0xF6, .zpx, 6, false, .base, .f1 .incZpX⟩,
      ⟨0xF8, .imp, 2, false, .base, .f0 .sed⟩,
      ⟨0xF9, .absy, 4, true, .base, .f2 .sbcAbsY⟩,
      ⟨0xFA, .imp, 4, false, .c02Named, .f0 .plx⟩,
      ⟨0xFD, .absx, 4, true, .base, .f2 .sbcAbsX⟩,
      ⟨0xFE, .absx, 7, false, .base, .f2 .incAbsX⟩]
  | _ => []

/-- The row of an opcode byte; none for the 86 bytes the map leaves empty (R89). -/
def lookup (op : Byte) : Option Row := (opcodeRow (op.toNat / 16)).find? (fun r => r.opcode == op)

/-- Why bytes are no instruction. -/
inductive Reject where
  /-- Fewer bytes than the instruction has. -/
  | truncated
  /-- The first byte is no admitted opcode (R88). -/
  | illegalOpcode (op : Byte)
deriving DecidableEq, Repr

/-- The operand bytes taken from the bytes after the opcode, `w = {b2, b1}` (R82). -/
def Form.assemble : Form → List Byte → Option (Instr × List Byte)
  | .f0 i, rest => some (i, rest)
  | .f1 mk, b1 :: rest => some (mk b1, rest)
  | .f1 _, [] => none
  | .f2 mk, b1 :: b2 :: rest => some (mk (cat b2 b1), rest)
  | .f2 _, [_] => none
  | .f2 _, [] => none

/-- `Decode` of R83, on the bytes at ascending addresses: the instruction and the bytes after it, or why there is
none. An opcode of a group that is not admitted is illegal (R88, R270). -/
def decode (c02Extra : Bool) : List Byte → Except Reject (Instr × List Byte)
  | [] => .error .truncated
  | op :: rest =>
    match lookup op with
    | none => .error (.illegalOpcode op)
    | some r =>
      if r.group.admitted c02Extra then
        match r.form.assemble rest with
        | some out => .ok out
        | none => .error .truncated
      else .error (.illegalOpcode op)

/-- The bytes of an instruction at ascending addresses: opcode, then the operand, low byte first (R80, R82). -/
def encode : Instr → List Byte
  | .brk => [0x00]
  | .oraIndX b => [0x01, b]
  | .tsbZp b => [0x04, b]
  | .oraZp b => [0x05, b]
  | .aslZp b => [0x06, b]
  | .php => [0x08]
  | .oraImm b => [0x09, b]
  | .aslA => [0x0A]
  | .tsbAbs w => [0x0C, lo w, hi w]
  | .oraAbs w => [0x0D, lo w, hi w]
  | .aslAbs w => [0x0E, lo w, hi w]
  | .bpl b => [0x10, b]
  | .oraIndY b => [0x11, b]
  | .trbZp b => [0x14, b]
  | .oraZpX b => [0x15, b]
  | .aslZpX b => [0x16, b]
  | .clc => [0x18]
  | .oraAbsY w => [0x19, lo w, hi w]
  | .incA => [0x1A]
  | .trbAbs w => [0x1C, lo w, hi w]
  | .oraAbsX w => [0x1D, lo w, hi w]
  | .aslAbsX w => [0x1E, lo w, hi w]
  | .jsr w => [0x20, lo w, hi w]
  | .andIndX b => [0x21, b]
  | .bitZp b => [0x24, b]
  | .andZp b => [0x25, b]
  | .rolZp b => [0x26, b]
  | .plp => [0x28]
  | .andImm b => [0x29, b]
  | .rolA => [0x2A]
  | .bitAbs w => [0x2C, lo w, hi w]
  | .andAbs w => [0x2D, lo w, hi w]
  | .rolAbs w => [0x2E, lo w, hi w]
  | .bmi b => [0x30, b]
  | .andIndY b => [0x31, b]
  | .bitZpX b => [0x34, b]
  | .andZpX b => [0x35, b]
  | .rolZpX b => [0x36, b]
  | .sec => [0x38]
  | .andAbsY w => [0x39, lo w, hi w]
  | .decA => [0x3A]
  | .bitAbsX w => [0x3C, lo w, hi w]
  | .andAbsX w => [0x3D, lo w, hi w]
  | .rolAbsX w => [0x3E, lo w, hi w]
  | .rti => [0x40]
  | .eorIndX b => [0x41, b]
  | .eorZp b => [0x45, b]
  | .lsrZp b => [0x46, b]
  | .pha => [0x48]
  | .eorImm b => [0x49, b]
  | .lsrA => [0x4A]
  | .jmpAbs w => [0x4C, lo w, hi w]
  | .eorAbs w => [0x4D, lo w, hi w]
  | .lsrAbs w => [0x4E, lo w, hi w]
  | .bvc b => [0x50, b]
  | .eorIndY b => [0x51, b]
  | .eorZpX b => [0x55, b]
  | .lsrZpX b => [0x56, b]
  | .cli => [0x58]
  | .eorAbsY w => [0x59, lo w, hi w]
  | .phy => [0x5A]
  | .eorAbsX w => [0x5D, lo w, hi w]
  | .lsrAbsX w => [0x5E, lo w, hi w]
  | .rts => [0x60]
  | .adcIndX b => [0x61, b]
  | .stzZp b => [0x64, b]
  | .adcZp b => [0x65, b]
  | .rorZp b => [0x66, b]
  | .pla => [0x68]
  | .adcImm b => [0x69, b]
  | .rorA => [0x6A]
  | .jmpInd w => [0x6C, lo w, hi w]
  | .adcAbs w => [0x6D, lo w, hi w]
  | .rorAbs w => [0x6E, lo w, hi w]
  | .bvs b => [0x70, b]
  | .adcIndY b => [0x71, b]
  | .stzZpX b => [0x74, b]
  | .adcZpX b => [0x75, b]
  | .rorZpX b => [0x76, b]
  | .sei => [0x78]
  | .adcAbsY w => [0x79, lo w, hi w]
  | .ply => [0x7A]
  | .jmpIndAbsX w => [0x7C, lo w, hi w]
  | .adcAbsX w => [0x7D, lo w, hi w]
  | .rorAbsX w => [0x7E, lo w, hi w]
  | .bra b => [0x80, b]
  | .staIndX b => [0x81, b]
  | .styZp b => [0x84, b]
  | .staZp b => [0x85, b]
  | .stxZp b => [0x86, b]
  | .dey => [0x88]
  | .bitImm b => [0x89, b]
  | .txa => [0x8A]
  | .styAbs w => [0x8C, lo w, hi w]
  | .staAbs w => [0x8D, lo w, hi w]
  | .stxAbs w => [0x8E, lo w, hi w]
  | .bcc b => [0x90, b]
  | .staIndY b => [0x91, b]
  | .styZpX b => [0x94, b]
  | .staZpX b => [0x95, b]
  | .stxZpY b => [0x96, b]
  | .tya => [0x98]
  | .staAbsY w => [0x99, lo w, hi w]
  | .txs => [0x9A]
  | .stzAbs w => [0x9C, lo w, hi w]
  | .staAbsX w => [0x9D, lo w, hi w]
  | .stzAbsX w => [0x9E, lo w, hi w]
  | .ldyImm b => [0xA0, b]
  | .ldaIndX b => [0xA1, b]
  | .ldxImm b => [0xA2, b]
  | .ldyZp b => [0xA4, b]
  | .ldaZp b => [0xA5, b]
  | .ldxZp b => [0xA6, b]
  | .tay => [0xA8]
  | .ldaImm b => [0xA9, b]
  | .tax => [0xAA]
  | .ldyAbs w => [0xAC, lo w, hi w]
  | .ldaAbs w => [0xAD, lo w, hi w]
  | .ldxAbs w => [0xAE, lo w, hi w]
  | .bcs b => [0xB0, b]
  | .ldaIndY b => [0xB1, b]
  | .ldyZpX b => [0xB4, b]
  | .ldaZpX b => [0xB5, b]
  | .ldxZpY b => [0xB6, b]
  | .clv => [0xB8]
  | .ldaAbsY w => [0xB9, lo w, hi w]
  | .tsx => [0xBA]
  | .ldyAbsX w => [0xBC, lo w, hi w]
  | .ldaAbsX w => [0xBD, lo w, hi w]
  | .ldxAbsY w => [0xBE, lo w, hi w]
  | .cpyImm b => [0xC0, b]
  | .cmpIndX b => [0xC1, b]
  | .cpyZp b => [0xC4, b]
  | .cmpZp b => [0xC5, b]
  | .decZp b => [0xC6, b]
  | .iny => [0xC8]
  | .cmpImm b => [0xC9, b]
  | .dex => [0xCA]
  | .cpyAbs w => [0xCC, lo w, hi w]
  | .cmpAbs w => [0xCD, lo w, hi w]
  | .decAbs w => [0xCE, lo w, hi w]
  | .bne b => [0xD0, b]
  | .cmpIndY b => [0xD1, b]
  | .cmpZpX b => [0xD5, b]
  | .decZpX b => [0xD6, b]
  | .cld => [0xD8]
  | .cmpAbsY w => [0xD9, lo w, hi w]
  | .phx => [0xDA]
  | .cmpAbsX w => [0xDD, lo w, hi w]
  | .decAbsX w => [0xDE, lo w, hi w]
  | .cpxImm b => [0xE0, b]
  | .sbcIndX b => [0xE1, b]
  | .cpxZp b => [0xE4, b]
  | .sbcZp b => [0xE5, b]
  | .incZp b => [0xE6, b]
  | .inx => [0xE8]
  | .sbcImm b => [0xE9, b]
  | .nop => [0xEA]
  | .cpxAbs w => [0xEC, lo w, hi w]
  | .sbcAbs w => [0xED, lo w, hi w]
  | .incAbs w => [0xEE, lo w, hi w]
  | .beq b => [0xF0, b]
  | .sbcIndY b => [0xF1, b]
  | .sbcZpX b => [0xF5, b]
  | .incZpX b => [0xF6, b]
  | .sed => [0xF8]
  | .sbcAbsY w => [0xF9, lo w, hi w]
  | .plx => [0xFA]
  | .sbcAbsX w => [0xFD, lo w, hi w]
  | .incAbsX w => [0xFE, lo w, hi w]

/-- The opcode byte of an instruction: the first byte of its encoding. -/
def opcodeOf (i : Instr) : Byte := (encode i).headD 0x00

/-- The length of an instruction in bytes (R81). -/
def lengthOf (i : Instr) : Nat := (encode i).length

/-- The first three bytes of an instruction whose bits are numbered as `opcode_table.json` numbers them: bit 0 is the
least significant bit of the first byte, and the bits from `nbits` up are zero. -/
def tableBytes (nbits w : Nat) : List Byte :=
  let v := w % 2 ^ nbits
  [BitVec.ofNat 8 v, BitVec.ofNat 8 (v / 256), BitVec.ofNat 8 (v / 65536)]

/-- The instruction the decoder reads from a word of the table, in a machine that admits every row of it
(`C02_EXTRA` true; log 5). -/
def decodeTableWord (nbits w : Nat) : Option Instr :=
  match decode true (tableBytes nbits w) with
  | .ok out => some out.1
  | .error _ => none

end Sys2Proof
end

