-- ==== Sys2Proof/Config.lean ====
section
/-! DEFINITION. What the spec leaves open and carries as named parameters, with the default of each (R6 of
`00_scope.md`). The record is plain data: State holds one, which no instruction and no host operation changes (log 1).
The default tables of base cycles and of the page-cross set are rows of the opcode table in `Decode.lean`; the record
holds only the changes to them (log 2). -/

namespace Sys2Proof

/-- The parameters of R6. Every default is the one R6 names. -/
structure Config where
  /-- `C02_EXTRA`: whether the 14 optional 65C02 opcodes decode (R84, R270). -/
  c02Extra : Bool := false
  /-- `BASE_CYCLES`, as changes to the default table R350: an opcode listed here has the count listed, any other the
  table's (log 2). -/
  baseCycles : List (Byte × Nat) := []
  /-- `PAGE_CROSS_SET`, as changes to the default set R351: an opcode listed here is a member iff it says `true`, any
  other as the set says (log 2). -/
  pageCross : List (Byte × Bool) := []
  /-- `TICK_BIAS`, 0 or 1: the countdown is loaded with the cost minus it (R126). -/
  tickBias : Fin 2 := 0
  /-- `PHP_FORCES_B`: whether PHP pushes bit 4 as 1 whatever flag B holds (R244). -/
  phpForcesB : Bool := false
  /-- `ZP_PTR_WRAP`: whether a zero-page pointer at 0xFF has its high byte at 0x00 or at 0x0100 (R115). -/
  zpPtrWrap : Bool := true
  /-- `JMP_IND_PAGE_WRAP`: whether the pointer of `JMP (abs)` stays in its page (R112). -/
  jmpIndPageWrap : Bool := false
  /-- `RESET_A` (R46, R330). -/
  resetA : Byte := 0x00
  /-- `RESET_X` (R46, R330). -/
  resetX : Byte := 0x00
  /-- `RESET_Y` (R46, R330). -/
  resetY : Byte := 0x00
  /-- `RESET_SP` (R46, R330). -/
  resetSP : Byte := 0xFD
  /-- `RESET_P`, the packed status after reset (R46, R330). -/
  resetP : Byte := 0x24
deriving DecidableEq, Repr

/-- The range R6 gives `BASE_CYCLES`: every count is 1 to 7. -/
def Config.wf (c : Config) : Bool := c.baseCycles.all fun e => 1 ≤ e.2 && e.2 ≤ 7

/-- The cycle tables are the defaults R350 and R351. -/
def Config.defaultTiming (c : Config) : Bool := c.baseCycles.isEmpty && c.pageCross.isEmpty

/-- `INPUT_BYTE_ADDR`, the "designated memory-mapped byte": OPEN in R6 and R314, so a constant without a value (log 7).
No instruction depends on it. -/
opaque Config.inputByteAddr : Word

/-- The value `pc` holds at construction, which R47 leaves unspecified: a constant without a value. A tick before `pc`
is seeded is refused, so no run reads it (log 6). -/
opaque Config.unseededPc : Word

end Sys2Proof
end

