-- ==== Sys2Proof/Machine/State.lean ====
section
/-! DEFINITION. Everything the spec gives the machine (R20 to R44 of `10_state.md`), as plain data, the reasons a step
can end without a next state, and the state after reset (R46). -/

namespace Sys2Proof.Machine

/-- The seven one-bit flags, each an independent boolean (R26). Bit 5 of the packed byte is not state (R27). -/
structure Flags where
  /-- `C`, carry, bit 0 (R30). -/
  c : Bool
  /-- `Z`, zero, bit 1 (R31). -/
  z : Bool
  /-- `I`, interrupt-disable, bit 2 (R32). -/
  i : Bool
  /-- `D`, decimal, bit 3 (R33). -/
  d : Bool
  /-- `B`, break, bit 4 (R34). -/
  b : Bool
  /-- `V`, overflow, bit 6 (R35). -/
  v : Bool
  /-- `N`, negative, bit 7 (R36). -/
  n : Bool
deriving DecidableEq, Repr

/-- The Memory Image (R42, R50): pairs of address and byte, the addresses strictly rising, no pair holding the byte
that an unlisted address reads as (`Memory.wf`). -/
abbrev Memory := List Host.Cell

/-- The state of the CORE and of the Memory Image it shares with the host. -/
structure State where
  /-- The program counter (R25). -/
  pc : Word
  /-- The stack pointer, an offset into the stack page (R24). -/
  sp : Byte
  /-- The accumulator (R21). -/
  a : Byte
  /-- Index register X (R22). -/
  x : Byte
  /-- Index register Y (R23). -/
  y : Byte
  /-- The flags (R26). -/
  flags : Flags
  /-- The Cycle Counter: burn ticks still to come; zero means ready to fetch (R38). -/
  cyc : Nat
  /-- The cycle bonus of the instruction in flight, without meaning between ticks (R41, log 8). -/
  bonus : Nat
  /-- The break indicator `brk_halt` (R39). -/
  brkHalt : Bool
  /-- The illegal-opcode indicator (R40). -/
  illegal : Bool
  /-- The Memory Image (R42). -/
  mem : Memory
  /-- The model's own field: `Reset()` or `SetPC` has seeded `pc` since construction (R47, log 6). -/
  pcSeeded : Bool
  /-- The model's own field: the machine's parameters, fixed for its life (R6, R270, log 1). -/
  cfg : Config
deriving DecidableEq, Repr

/-- Reasons to stop with a fault: none. The spec knows no memory, alignment, privilege, arithmetic or stack fault
(R300), and its two conditions, IllegalOpcode and BreakHalt, latch a bit and are next states (log 9). -/
inductive Fault where
deriving DecidableEq, Repr

/-- Reasons to give no meaning. -/
inductive Refusal where
  /-- Raised by an arm of `exec` whose instruction has no meaning in the model. No arm raises it. Safe: the run stops. -/
  | notModelled (mnemonic : String)
  /-- Raised by a tick of a constructed machine before `Reset()` or `SetPC` has seeded `pc`, which the spec gives no
  meaning (R47, U16 of `93_implementation_defined.md`, log 6). Safe: the run stops. -/
  | pcNotSeeded
deriving DecidableEq, Repr

/-- What a meaning or a tick answers. -/
abbrev Result := Host.Outcome State Fault Refusal

/-- The machine after `Reset()` (R46, R330) with the default parameters of R6 and with a Memory Image in which nothing
is listed: the registers and flags have the values of `RESET_A` to `RESET_P` (log 4), `pc` is the reset vector of that
image, whose two bytes read 0x00 (log 3), nothing is in flight and no latch is set. -/
def State.reset : State where
  pc := 0x0000
  sp := 0xFD
  a := 0x00
  x := 0x00
  y := 0x00
  flags := { c := false, z := false, i := true, d := false, b := false, v := false, n := false }
  cyc := 0
  bonus := 0
  brkHalt := false
  illegal := false
  mem := []
  pcSeeded := true
  cfg := {}

end Sys2Proof.Machine
end

