-- ==== Sys2Proof/Machine/Ops.lean ====
section
/-! DEFINITION. The named operations over memory, registers, the stack and the latches (R10 of `00_scope.md`), the
cycle accountant (R121, R126, R127) and the fetch of an instruction's bytes (R55, R82). -/

namespace Sys2Proof.Machine

/-! ## Memory: one byte at a time (R50, R59) -/

/-- What an address reads as that nothing has written: the initial contents are the host's (R58); log 3. -/
def Memory.blank : Byte := 0x00

/-- The byte at an index. The list rises, so the search ends at the first higher address. -/
def Memory.get : Memory → Nat → Byte
  | [], _ => Memory.blank
  | c :: rest, k => if k < c.1 then Memory.blank else if k = c.1 then c.2 else Memory.get rest k

/-- The image with one byte changed, in canonical form again. -/
def Memory.set : Memory → Nat → Byte → Memory
  | [], k, v => if v = Memory.blank then [] else [(k, v)]
  | c :: rest, k, v =>
    if k < c.1 then (if v = Memory.blank then c :: rest else (k, v) :: c :: rest)
    else if k = c.1 then (if v = Memory.blank then rest else (k, v) :: rest)
    else c :: Memory.set rest k v

/-- The addresses rise strictly from `low`, lie in 0..0xFFFF (R50), and no byte is the blank one. -/
def Memory.wfFrom (low : Nat) : Memory → Bool
  | [] => true
  | c :: rest => decide (low ≤ c.1) && decide (c.1 < 65536) && (c.2 != Memory.blank) && Memory.wfFrom (c.1 + 1) rest

/-- The canonical form of the Memory Image. -/
def Memory.wf (m : Memory) : Bool := m.wfFrom 0

/-- `MemRead(addr, 1)` (R10). An address is a 16-bit index, so the masking of R53 is the wrap of its arithmetic. -/
def memRead (s : State) (addr : Word) : Byte := Memory.get s.mem addr.toNat

/-- `MemRead(addr, 2)`: two byte reads, little-endian, the second address wrapped (R10, R55). -/
def memRead16 (s : State) (addr : Word) : Word := cat (memRead s (addr + 1)) (memRead s addr)

/-- `MemWrite(addr, 1, v)` (R10): takes effect at every address (R54). -/
def memWrite (addr : Word) (v : Byte) (s : State) : State := { s with mem := Memory.set s.mem addr.toNat v }

/-- `ZpRead16(z)`: the pointer at a zero-page location; `ZP_PTR_WRAP` says where the high byte of one at 0xFF is
(R115). -/
def zpRead16 (s : State) (z : Byte) : Word :=
  cat (memRead s (if s.cfg.zpPtrWrap then zext16 (z + 1) else zext16 z + 1)) (memRead s (zext16 z))

/-! ## Registers: the one place that writes each (R20; none is hardwired or banked) -/

/-- `pc <- v` (R25). -/
def setPc (v : Word) (s : State) : State := { s with pc := v }
/-- `sp <- v` (R24). -/
def setSp (v : Byte) (s : State) : State := { s with sp := v }
/-- `a <- v` (R21). -/
def setA (v : Byte) (s : State) : State := { s with a := v }
/-- `x <- v` (R22). -/
def setX (v : Byte) (s : State) : State := { s with x := v }
/-- `y <- v` (R23). -/
def setY (v : Byte) (s : State) : State := { s with y := v }
/-- Writes all seven flags (R26). -/
def setFlags (f : Flags) (s : State) : State := { s with flags := f }

/-! ## The stack (R240, R241 of `46_stack_flags_system.md`) -/

/-- The cell a stack pointer names: `0x0100 + sp` (R24). -/
def stackAddr (sp : Byte) : Word := 0x0100 + zext16 sp

/-- `Push(v)`: writes at `0x0100 + sp`, then decrements `sp` modulo 256 (R240). -/
def push (v : Byte) (s : State) : State := setSp (s.sp - 1) (memWrite (stackAddr s.sp) v s)

/-- The byte a `Pop()` returns: it reads after the increment (R241). -/
def popByte (s : State) : Byte := memRead s (stackAddr (s.sp + 1))

/-- The state a `Pop()` leaves: `sp` incremented modulo 256, memory as it was (R241). -/
def popped (s : State) : State := setSp (s.sp + 1) s

/-! ## The two conditions and the way out (R300 to R309 of `60_exceptions.md`)

Nothing is saved and no vector is taken (R308); a condition only sets its latch. No instruction returns from one
(R309): the way out is `Reset()`, which is `hostReset` of `HostOps.lean`. -/

/-- The complete list of conditions (R300). -/
inductive Condition where
  /-- The byte at `pc` is no admitted opcode (R301). -/
  | illegalOpcode
  /-- BRK was executed (R303). -/
  | breakHalt
deriving DecidableEq, Repr

/-- The labels R300 gives the conditions. -/
def Condition.code : Condition → Nat
  | .illegalOpcode => 1
  | .breakHalt => 2

/-- `raise`: sets the condition's latch and changes nothing else (R10, R301, R303, R308). -/
def raise (k : Condition) (s : State) : State :=
  match k with
  | .illegalOpcode => { s with illegal := true }
  | .breakHalt => { s with brkHalt := true }

/-- Halted: either latch is set (R304). -/
def halted (s : State) : Bool := s.brkHalt || s.illegal

/-! ## The cycle accountant (R120 to R129 of `41_dispatch_and_cycles.md`) -/

/-- `BASE_CYCLES[op]`: a change the parameter lists, else the default table R350; an illegal opcode has no entry. -/
def baseCycles (cfg : Config) (op : Byte) : Nat :=
  match cfg.baseCycles.find? (fun e => e.1 == op) with
  | some e => e.2
  | none =>
    match lookup op with
    | some r => r.base
    | none => 0

/-- `op` is in `PAGE_CROSS_SET`: a change the parameter lists, else the default set R351. -/
def paysCrossing (cfg : Config) (op : Byte) : Bool :=
  match cfg.pageCross.find? (fun e => e.1 == op) with
  | some e => e.2
  | none =>
    match lookup op with
    | some r => r.cross
    | none => false

/-- Adds to `bonus` (R41). -/
def addBonus (k : Nat) (s : State) : State := { s with bonus := s.bonus + k }

/-- Line 7 of R123: one more cycle for a crossing that the opcode pays (R127). -/
def crossingBonus (op : Byte) (crossed : Bool) (s : State) : State :=
  if crossed && paysCrossing s.cfg op then addBonus 1 s else s

/-- Line 8 of R123: `pc` past the instruction, modulo 65536 (R25). -/
def advance (len : Nat) (s : State) : State := setPc (s.pc + BitVec.ofNat 16 len) s

/-- Line 10 of R123: `cyc <- base + bonus − TICK_BIAS` (R126). -/
def rearm (op : Byte) (s : State) : State :=
  { s with cyc := baseCycles s.cfg op + s.bonus - s.cfg.tickBias.val }

/-- A burn tick: `cyc <- cyc − 1`, nothing else (R121). -/
def burn (s : State) : State := { s with cyc := s.cyc - 1 }

/-- Line 1 of R123: `bonus <- 0`. -/
def clearBonus (s : State) : State := { s with bonus := 0 }

/-! ## Fetch (R55, R82, R65) -/

/-- The bytes at `pc`, `pc+1`, `pc+2`, addresses wrapped: as many as the longest instruction has. Reads have no effect,
so reading past a shorter instruction changes nothing (R60, log 10). -/
def fetchBytes (s : State) : List Byte := [memRead s s.pc, memRead s (s.pc + 1), memRead s (s.pc + 2)]

/-- The instruction at `pc`, or why there is none. -/
def fetch (s : State) : Except Reject Instr :=
  match decode s.cfg.c02Extra (fetchBytes s) with
  | .ok out => .ok out.1
  | .error e => .error e

end Sys2Proof.Machine
end

