-- ==== Sys2Proof/Machine/Operands.lean ====
section
/-! DEFINITION. The Addressing-Mode Resolver (R100 to R117 of `40_addressing_modes.md`). `s` is the state with `pc`
still at the opcode (`pc0`); resolving writes nothing (R100). Implied has no operand (R101): its handlers take none.
Immediate is the operand byte itself, "value used in place" (R103): its handlers take the byte (log 10). -/

namespace Sys2Proof.Machine

/-- The modes that compute a memory address, with their operand bytes (R117). -/
inductive AddrMode where
  | zp (b : Byte)
  | zpx (b : Byte)
  | zpy (b : Byte)
  | abs (w : Word)
  | absx (w : Word)
  | absy (w : Word)
  | indx (b : Byte)
  | indy (b : Byte)
  | ind (w : Word)
  | indabsx (w : Word)
  | rel (b : Byte)
deriving DecidableEq, Repr

/-- The mode's identifier (R81). -/
def AddrMode.mode : AddrMode → Mode
  | .zp _ => .zp
  | .zpx _ => .zpx
  | .zpy _ => .zpy
  | .abs _ => .abs
  | .absx _ => .absx
  | .absy _ => .absy
  | .indx _ => .indx
  | .indy _ => .indy
  | .ind _ => .ind
  | .indabsx _ => .indabsx
  | .rel _ => .rel

/-- Instruction length: one more than the mode's operand bytes (R81). -/
def AddrMode.length (m : AddrMode) : Nat := 1 + m.mode.operandBytes

/-- Where the high byte of the pointer of `JMP (abs)` is (R112). -/
def indirectHighAddr (s : State) (w : Word) : Word :=
  if s.cfg.jmpIndPageWrap then cat (hi w) (lo w + 1) else w + 1

/-- The address a memory mode computes (R104 to R114). -/
def effAddr (m : AddrMode) (s : State) : Word :=
  match m with
  | .zp b => zext16 b
  | .zpx b => zext16 (b + s.x)
  | .zpy b => zext16 (b + s.y)
  | .abs w => w
  | .absx w => w + zext16 s.x
  | .absy w => w + zext16 s.y
  | .indx b => zpRead16 s (b + s.x)
  | .indy b => zpRead16 s b + zext16 s.y
  | .ind w => cat (memRead s (indirectHighAddr s w)) (memRead s w)
  | .indabsx w => memRead16 s (w + zext16 s.x)
  | .rel b => s.pc + 2 + sext16 b

/-- `crossed` (R116): the indexed address lies in another page than its base; false in every other mode. -/
def crossed (m : AddrMode) (s : State) : Bool :=
  match m with
  | .zp _ => false
  | .zpx _ => false
  | .zpy _ => false
  | .abs _ => false
  | .absx w => hi (w + zext16 s.x) != hi w
  | .absy w => hi (w + zext16 s.y) != hi w
  | .indx _ => false
  | .indy b => hi (zpRead16 s b + zext16 s.y) != hi (zpRead16 s b)
  | .ind _ => false
  | .indabsx _ => false
  | .rel _ => false

/-- The effective address of a handler that takes "a generic memory operand" (R11): the accumulator or a cell. -/
inductive EA where
  | acc
  | mem (addr : Word)
deriving DecidableEq, Repr

/-- `OpRead(ea)` (R10, R102). -/
def opRead (ea : EA) (s : State) : Byte :=
  match ea with
  | .acc => s.a
  | .mem addr => memRead s addr

/-- `OpWrite(ea, v)` (R10, R102). -/
def opWrite (ea : EA) (v : Byte) (s : State) : State :=
  match ea with
  | .acc => setA v s
  | .mem addr => memWrite addr v s

/-! ## The shapes of an instruction: lines 6 to 10 of R123

Each resolves in the state before the instruction, adds the crossing bonus, moves `pc` past the instruction, runs the
handler on that state, and re-arms the countdown. A handler sees the advanced `pc` (R124). -/

/-- Implied: the handler takes no operand (R101). -/
def runImplied (op : Byte) (h : State → State) (s : State) : State := rearm op (h (advance 1 s))

/-- Immediate: the handler takes the operand byte (R103). -/
def runImm (op : Byte) (b : Byte) (h : Byte → State → State) (s : State) : State := rearm op (h b (advance 2 s))

/-- Lines 7 and 8 of R123 for a memory mode. -/
def enter (op : Byte) (m : AddrMode) (s : State) : State := advance m.length (crossingBonus op (crossed m s) s)

/-- A memory operand that is read: the handler takes `m = OpRead(ea)`. -/
def runRead (op : Byte) (m : AddrMode) (h : Byte → State → State) (s : State) : State :=
  rearm op (h (memRead s (effAddr m s)) (enter op m s))

/-- A memory operand whose address the handler takes: a store or a change of `pc`. -/
def runAddr (op : Byte) (m : AddrMode) (h : Word → State → State) (s : State) : State :=
  rearm op (h (effAddr m s) (enter op m s))

/-- The accumulator as the operand (R102). -/
def runAcc (op : Byte) (h : EA → State → State) (s : State) : State := rearm op (h .acc (advance 1 s))

/-- A memory operand that is read and written (R190). -/
def runModify (op : Byte) (m : AddrMode) (h : EA → State → State) (s : State) : State :=
  rearm op (h (.mem (effAddr m s)) (enter op m s))

end Sys2Proof.Machine
end

