-- ==== Sys2Proof/Machine/Flags.lean ====
section
/-! DEFINITION. The packed status byte (R26 to R29 of `10_state.md`) and every flag computation of the spec (R30 to
R36, R171, R176, R179). -/

namespace Sys2Proof.Machine

/-- `Pack()`: `C + 2*Z + 4*I + 8*D + 16*B + 32 + 64*V + 128*N` (R28); bit 5 reads 1 (R27). -/
def pack (f : Flags) : Byte :=
  BitVec.ofNat 8 (f.c.toNat + 2 * f.z.toNat + 4 * f.i.toNat + 8 * f.d.toNat + 16 * f.b.toNat + 32
    + 64 * f.v.toNat + 128 * f.n.toNat)

/-- `Unpack(v)` (R29): `v[5]` is discarded. -/
def unpack (v : Byte) : Flags where
  c := v.getLsbD 0
  z := v.getLsbD 1
  i := v.getLsbD 2
  d := v.getLsbD 3
  b := v.getLsbD 4
  v := v.getLsbD 6
  n := v.getLsbD 7

/-- The byte PHP pushes: `Pack()`, with bit 4 set when `PHP_FORCES_B` (R244). -/
def pushedStatus (s : State) : Byte := if s.cfg.phpForcesB then pack s.flags ||| 0x10 else pack s.flags

/-- `C <- v`. -/
def setC (v : Bool) (s : State) : State := { s with flags := { s.flags with c := v } }
/-- `Z <- v`. -/
def setZ (v : Bool) (s : State) : State := { s with flags := { s.flags with z := v } }
/-- `I <- v`. -/
def setI (v : Bool) (s : State) : State := { s with flags := { s.flags with i := v } }
/-- `D <- v`. -/
def setD (v : Bool) (s : State) : State := { s with flags := { s.flags with d := v } }
/-- `V <- v`. -/
def setV (v : Bool) (s : State) : State := { s with flags := { s.flags with v := v } }
/-- `N <- v`. -/
def setN (v : Bool) (s : State) : State := { s with flags := { s.flags with n := v } }

/-- `SetZN(v)`: `Z <- (v == 0)`, `N <- v[7]` (R10, R31, R36). -/
def setZN (v : Byte) (s : State) : State := setN (v.getLsbD 7) (setZ (v == 0) s)

/-- `t = m + a + C`, a natural number (R171). -/
def adcSum (m a : Byte) (c : Bool) : Nat := m.toNat + a.toNat + c.toNat

/-- The 8-bit result `t & 0xFF` (R171). -/
def adcResult (m a : Byte) (c : Bool) : Byte := BitVec.ofNat 8 (adcSum m a c)

/-- `C <- (t >= 0x100)` (R171). -/
def adcCarry (m a : Byte) (c : Bool) : Bool := decide (0x100 ≤ adcSum m a c)

/-- `V <- (m[7] == a[7]) and (r[7] != a[7])`, with the old `a` (R171). -/
def adcOverflow (m a : Byte) (c : Bool) : Bool :=
  (m.getLsbD 7 == a.getLsbD 7) && ((adcResult m a c).getLsbD 7 != a.getLsbD 7)

/-- `AdcCore(m)` (R171): binary whatever D holds (R170). -/
def adcCore (m : Byte) (s : State) : State :=
  setZN (adcResult m s.a s.flags.c)
    (setA (adcResult m s.a s.flags.c)
      (setC (adcCarry m s.a s.flags.c) (setV (adcOverflow m s.a s.flags.c) s)))

/-- `Compare(r, m)` (R176): `Z <- (r == m)`, `C <- (r >= m)` unsigned, `N` bit 7 of the difference. -/
def compareWith (r m : Byte) (s : State) : State :=
  setN ((r - m).getLsbD 7) (setC (decide (m.toNat ≤ r.toNat)) (setZ (r == m) s))

/-- `Z <- ((a & m) == 0)` (R179, R276 to R278). -/
def testBits (m : Byte) (s : State) : State := setZ ((s.a &&& m) == 0) s

end Sys2Proof.Machine
end

