-- ==== Sys2Proof/Machine/ArithLogic.lean ====
section
/-! DEFINITION. Arithmetic, logic, compare and bit test (R170 to R181 of `43_arithmetic_logic.md`).
The handlers first, each the pseudocode of its rule on the state with `pc` advanced (R124, R125); then one meaning
for every opcode byte: its opcode, its mode, its handler. -/

namespace Sys2Proof.Machine

/-- `AdcCore(m)` (R171). -/
def adcOp (m : Byte) (s : State) : State := adcCore m s

/-- `AdcCore(m ^ 0xFF)` (R172, R180). -/
def sbcOp (m : Byte) (s : State) : State := adcCore (m ^^^ 0xFF) s

/-- `a <- a & m; SetZN(a)` (R173). -/
def andOp (m : Byte) (s : State) : State := setZN (s.a &&& m) (setA (s.a &&& m) s)

/-- `a <- a | m; SetZN(a)` (R174). -/
def oraOp (m : Byte) (s : State) : State := setZN (s.a ||| m) (setA (s.a ||| m) s)

/-- `a <- a ^ m; SetZN(a)` (R175). -/
def eorOp (m : Byte) (s : State) : State := setZN (s.a ^^^ m) (setA (s.a ^^^ m) s)

/-- `Compare(a, m)` (R176). -/
def cmpOp (m : Byte) (s : State) : State := compareWith s.a m s

/-- `Compare(x, m)` (R177). -/
def cpxOp (m : Byte) (s : State) : State := compareWith s.x m s

/-- `Compare(y, m)` (R178). -/
def cpyOp (m : Byte) (s : State) : State := compareWith s.y m s

/-- `Z <- ((a & m) == 0); N <- m[7]; V <- m[6]` (R179). -/
def bitOp (m : Byte) (s : State) : State := setV (m.getLsbD 6) (setN (m.getLsbD 7) (testBits m s))

/-- `ADC ($nn,X)` (R171, R110). -/
def execAdcIndX (b : Byte) (s : State) : Result := .next (runRead 0x61 (.indx b) adcOp s)
/-- `ADC $nn` (R171, R104). -/
def execAdcZp (b : Byte) (s : State) : Result := .next (runRead 0x65 (.zp b) adcOp s)
/-- `ADC #$nn` (R171, R103). -/
def execAdcImm (b : Byte) (s : State) : Result := .next (runImm 0x69 b adcOp s)
/-- `ADC $nnnn` (R171, R107). -/
def execAdcAbs (w : Word) (s : State) : Result := .next (runRead 0x6D (.abs w) adcOp s)
/-- `ADC ($nn),Y` (R171, R111). -/
def execAdcIndY (b : Byte) (s : State) : Result := .next (runRead 0x71 (.indy b) adcOp s)
/-- `ADC $nn,X` (R171, R105). -/
def execAdcZpX (b : Byte) (s : State) : Result := .next (runRead 0x75 (.zpx b) adcOp s)
/-- `ADC $nnnn,Y` (R171, R109). -/
def execAdcAbsY (w : Word) (s : State) : Result := .next (runRead 0x79 (.absy w) adcOp s)
/-- `ADC $nnnn,X` (R171, R108). -/
def execAdcAbsX (w : Word) (s : State) : Result := .next (runRead 0x7D (.absx w) adcOp s)
/-- `SBC ($nn,X)` (R172, R110). -/
def execSbcIndX (b : Byte) (s : State) : Result := .next (runRead 0xE1 (.indx b) sbcOp s)
/-- `SBC $nn` (R172, R104). -/
def execSbcZp (b : Byte) (s : State) : Result := .next (runRead 0xE5 (.zp b) sbcOp s)
/-- `SBC #$nn` (R172, R103). -/
def execSbcImm (b : Byte) (s : State) : Result := .next (runImm 0xE9 b sbcOp s)
/-- `SBC $nnnn` (R172, R107). -/
def execSbcAbs (w : Word) (s : State) : Result := .next (runRead 0xED (.abs w) sbcOp s)
/-- `SBC ($nn),Y` (R172, R111). -/
def execSbcIndY (b : Byte) (s : State) : Result := .next (runRead 0xF1 (.indy b) sbcOp s)
/-- `SBC $nn,X` (R172, R105). -/
def execSbcZpX (b : Byte) (s : State) : Result := .next (runRead 0xF5 (.zpx b) sbcOp s)
/-- `SBC $nnnn,Y` (R172, R109). -/
def execSbcAbsY (w : Word) (s : State) : Result := .next (runRead 0xF9 (.absy w) sbcOp s)
/-- `SBC $nnnn,X` (R172, R108). -/
def execSbcAbsX (w : Word) (s : State) : Result := .next (runRead 0xFD (.absx w) sbcOp s)
/-- `AND ($nn,X)` (R173, R110). -/
def execAndIndX (b : Byte) (s : State) : Result := .next (runRead 0x21 (.indx b) andOp s)
/-- `AND $nn` (R173, R104). -/
def execAndZp (b : Byte) (s : State) : Result := .next (runRead 0x25 (.zp b) andOp s)
/-- `AND #$nn` (R173, R103). -/
def execAndImm (b : Byte) (s : State) : Result := .next (runImm 0x29 b andOp s)
/-- `AND $nnnn` (R173, R107). -/
def execAndAbs (w : Word) (s : State) : Result := .next (runRead 0x2D (.abs w) andOp s)
/-- `AND ($nn),Y` (R173, R111). -/
def execAndIndY (b : Byte) (s : State) : Result := .next (runRead 0x31 (.indy b) andOp s)
/-- `AND $nn,X` (R173, R105). -/
def execAndZpX (b : Byte) (s : State) : Result := .next (runRead 0x35 (.zpx b) andOp s)
/-- `AND $nnnn,Y` (R173, R109). -/
def execAndAbsY (w : Word) (s : State) : Result := .next (runRead 0x39 (.absy w) andOp s)
/-- `AND $nnnn,X` (R173, R108). -/
def execAndAbsX (w : Word) (s : State) : Result := .next (runRead 0x3D (.absx w) andOp s)
/-- `ORA ($nn,X)` (R174, R110). -/
def execOraIndX (b : Byte) (s : State) : Result := .next (runRead 0x01 (.indx b) oraOp s)
/-- `ORA $nn` (R174, R104). -/
def execOraZp (b : Byte) (s : State) : Result := .next (runRead 0x05 (.zp b) oraOp s)
/-- `ORA #$nn` (R174, R103). -/
def execOraImm (b : Byte) (s : State) : Result := .next (runImm 0x09 b oraOp s)
/-- `ORA $nnnn` (R174, R107). -/
def execOraAbs (w : Word) (s : State) : Result := .next (runRead 0x0D (.abs w) oraOp s)
/-- `ORA ($nn),Y` (R174, R111). -/
def execOraIndY (b : Byte) (s : State) : Result := .next (runRead 0x11 (.indy b) oraOp s)
/-- `ORA $nn,X` (R174, R105). -/
def execOraZpX (b : Byte) (s : State) : Result := .next (runRead 0x15 (.zpx b) oraOp s)
/-- `ORA $nnnn,Y` (R174, R109). -/
def execOraAbsY (w : Word) (s : State) : Result := .next (runRead 0x19 (.absy w) oraOp s)
/-- `ORA $nnnn,X` (R174, R108). -/
def execOraAbsX (w : Word) (s : State) : Result := .next (runRead 0x1D (.absx w) oraOp s)
/-- `EOR ($nn,X)` (R175, R110). -/
def execEorIndX (b : Byte) (s : State) : Result := .next (runRead 0x41 (.indx b) eorOp s)
/-- `EOR $nn` (R175, R104). -/
def execEorZp (b : Byte) (s : State) : Result := .next (runRead 0x45 (.zp b) eorOp s)
/-- `EOR #$nn` (R175, R103). -/
def execEorImm (b : Byte) (s : State) : Result := .next (runImm 0x49 b eorOp s)
/-- `EOR $nnnn` (R175, R107). -/
def execEorAbs (w : Word) (s : State) : Result := .next (runRead 0x4D (.abs w) eorOp s)
/-- `EOR ($nn),Y` (R175, R111). -/
def execEorIndY (b : Byte) (s : State) : Result := .next (runRead 0x51 (.indy b) eorOp s)
/-- `EOR $nn,X` (R175, R105). -/
def execEorZpX (b : Byte) (s : State) : Result := .next (runRead 0x55 (.zpx b) eorOp s)
/-- `EOR $nnnn,Y` (R175, R109). -/
def execEorAbsY (w : Word) (s : State) : Result := .next (runRead 0x59 (.absy w) eorOp s)
/-- `EOR $nnnn,X` (R175, R108). -/
def execEorAbsX (w : Word) (s : State) : Result := .next (runRead 0x5D (.absx w) eorOp s)
/-- `CMP ($nn,X)` (R176, R110). -/
def execCmpIndX (b : Byte) (s : State) : Result := .next (runRead 0xC1 (.indx b) cmpOp s)
/-- `CMP $nn` (R176, R104). -/
def execCmpZp (b : Byte) (s : State) : Result := .next (runRead 0xC5 (.zp b) cmpOp s)
/-- `CMP #$nn` (R176, R103). -/
def execCmpImm (b : Byte) (s : State) : Result := .next (runImm 0xC9 b cmpOp s)
/-- `CMP $nnnn` (R176, R107). -/
def execCmpAbs (w : Word) (s : State) : Result := .next (runRead 0xCD (.abs w) cmpOp s)
/-- `CMP ($nn),Y` (R176, R111). -/
def execCmpIndY (b : Byte) (s : State) : Result := .next (runRead 0xD1 (.indy b) cmpOp s)
/-- `CMP $nn,X` (R176, R105). -/
def execCmpZpX (b : Byte) (s : State) : Result := .next (runRead 0xD5 (.zpx b) cmpOp s)
/-- `CMP $nnnn,Y` (R176, R109). -/
def execCmpAbsY (w : Word) (s : State) : Result := .next (runRead 0xD9 (.absy w) cmpOp s)
/-- `CMP $nnnn,X` (R176, R108). -/
def execCmpAbsX (w : Word) (s : State) : Result := .next (runRead 0xDD (.absx w) cmpOp s)
/-- `CPX #$nn` (R177, R103). -/
def execCpxImm (b : Byte) (s : State) : Result := .next (runImm 0xE0 b cpxOp s)
/-- `CPX $nn` (R177, R104). -/
def execCpxZp (b : Byte) (s : State) : Result := .next (runRead 0xE4 (.zp b) cpxOp s)
/-- `CPX $nnnn` (R177, R107). -/
def execCpxAbs (w : Word) (s : State) : Result := .next (runRead 0xEC (.abs w) cpxOp s)
/-- `CPY #$nn` (R178, R103). -/
def execCpyImm (b : Byte) (s : State) : Result := .next (runImm 0xC0 b cpyOp s)
/-- `CPY $nn` (R178, R104). -/
def execCpyZp (b : Byte) (s : State) : Result := .next (runRead 0xC4 (.zp b) cpyOp s)
/-- `CPY $nnnn` (R178, R107). -/
def execCpyAbs (w : Word) (s : State) : Result := .next (runRead 0xCC (.abs w) cpyOp s)
/-- `BIT $nn` (R179, R104). -/
def execBitZp (b : Byte) (s : State) : Result := .next (runRead 0x24 (.zp b) bitOp s)
/-- `BIT $nnnn` (R179, R107). -/
def execBitAbs (w : Word) (s : State) : Result := .next (runRead 0x2C (.abs w) bitOp s)

end Sys2Proof.Machine
end

