-- ==== Sys2Proof/Machine/BranchJump.lean ====
section
/-! DEFINITION. Branches, jumps, calls and returns (R210 to R226 of `45_branch_jump.md`). The
address a handler takes is not read (R210).
The handlers first, each the pseudocode of its rule on the state with `pc` advanced (R124, R125); then one meaning
for every opcode byte: its opcode, its mode, its handler. -/

namespace Sys2Proof.Machine

/-- The cycles a taken branch adds: 1, and 1 more when the advanced `pc` and the target lie in different pages (R128,
R210). -/
def takenBonus (pc target : Word) : Nat := if hi pc != hi target then 2 else 1

/-- A conditional branch: `pc` here is `pc0 + 2`; not taken, nothing happens (R210). -/
def branch (cond : Bool) (target : Word) (s : State) : State :=
  if cond then setPc target (addBonus (takenBonus s.pc target) s) else s

/-- `cond = (N == 0)` (R211). -/
def bplOp (target : Word) (s : State) : State := branch (!s.flags.n) target s

/-- `cond = (N == 1)` (R212). -/
def bmiOp (target : Word) (s : State) : State := branch s.flags.n target s

/-- `cond = (V == 0)` (R213). -/
def bvcOp (target : Word) (s : State) : State := branch (!s.flags.v) target s

/-- `cond = (V == 1)` (R214). -/
def bvsOp (target : Word) (s : State) : State := branch s.flags.v target s

/-- `cond = (C == 0)` (R215). -/
def bccOp (target : Word) (s : State) : State := branch (!s.flags.c) target s

/-- `cond = (C == 1)` (R216). -/
def bcsOp (target : Word) (s : State) : State := branch s.flags.c target s

/-- `cond = (Z == 0)` (R217). -/
def bneOp (target : Word) (s : State) : State := branch (!s.flags.z) target s

/-- `cond = (Z == 1)` (R218). -/
def beqOp (target : Word) (s : State) : State := branch s.flags.z target s

/-- `pc <- T`, the three forms of JMP (R219, R220, R221). -/
def jmpOp (target : Word) (s : State) : State := setPc target s

/-- JSR: pushes `pc − 1`, high byte first, then jumps (R222, R56). -/
def jsrOp (target : Word) (s : State) : State :=
  setPc target (push (lo (s.pc - 1)) (push (hi (s.pc - 1)) s))

/-- RTS: pops low, then high; `pc <- {hi, lo} + 1` (R223). -/
def rtsOp (s : State) : State :=
  setPc (cat (popByte (popped s)) (popByte s) + 1) (popped (popped s))

/-- RTI: unpacks the popped status, then pops low, then high; no +1 (R224). -/
def rtiOp (s : State) : State :=
  setPc (cat (popByte (popped (popped s))) (popByte (popped s)))
    (popped (popped (setFlags (unpack (popByte s)) (popped s))))

/-- `BPL label` (R211, R114). -/
def execBpl (b : Byte) (s : State) : Result := .next (runAddr 0x10 (.rel b) bplOp s)
/-- `BMI label` (R212, R114). -/
def execBmi (b : Byte) (s : State) : Result := .next (runAddr 0x30 (.rel b) bmiOp s)
/-- `BVC label` (R213, R114). -/
def execBvc (b : Byte) (s : State) : Result := .next (runAddr 0x50 (.rel b) bvcOp s)
/-- `BVS label` (R214, R114). -/
def execBvs (b : Byte) (s : State) : Result := .next (runAddr 0x70 (.rel b) bvsOp s)
/-- `BCC label` (R215, R114). -/
def execBcc (b : Byte) (s : State) : Result := .next (runAddr 0x90 (.rel b) bccOp s)
/-- `BCS label` (R216, R114). -/
def execBcs (b : Byte) (s : State) : Result := .next (runAddr 0xB0 (.rel b) bcsOp s)
/-- `BNE label` (R217, R114). -/
def execBne (b : Byte) (s : State) : Result := .next (runAddr 0xD0 (.rel b) bneOp s)
/-- `BEQ label` (R218, R114). -/
def execBeq (b : Byte) (s : State) : Result := .next (runAddr 0xF0 (.rel b) beqOp s)
/-- `JMP $nnnn` (R219, R107). -/
def execJmpAbs (w : Word) (s : State) : Result := .next (runAddr 0x4C (.abs w) jmpOp s)
/-- `JMP ($nnnn)` (R220, R112). -/
def execJmpInd (w : Word) (s : State) : Result := .next (runAddr 0x6C (.ind w) jmpOp s)
/-- `JMP ($nnnn,X)` (R221, R113). -/
def execJmpIndAbsX (w : Word) (s : State) : Result := .next (runAddr 0x7C (.indabsx w) jmpOp s)
/-- `JSR $nnnn` (R222, R107). -/
def execJsr (w : Word) (s : State) : Result := .next (runAddr 0x20 (.abs w) jsrOp s)
/-- `RTS` (R223, R101). -/
def execRts (s : State) : Result := .next (runImplied 0x60 rtsOp s)
/-- `RTI` (R224, R101). -/
def execRti (s : State) : Result := .next (runImplied 0x40 rtiOp s)

end Sys2Proof.Machine
end

