-- ==== Sys2Proof/Machine/LoadStore.lean ====
section
/-! DEFINITION. Loads, stores and register transfers (R140 to R152 of `42_load_store_transfer.md`).
The handlers first, each the pseudocode of its rule on the state with `pc` advanced (R124, R125); then one meaning
for every opcode byte: its opcode, its mode, its handler. -/

namespace Sys2Proof.Machine

/-- `a <- m; SetZN(a)` (R141). -/
def ldaOp (m : Byte) (s : State) : State := setZN m (setA m s)

/-- `x <- m; SetZN(x)` (R142). -/
def ldxOp (m : Byte) (s : State) : State := setZN m (setX m s)

/-- `y <- m; SetZN(y)` (R143). -/
def ldyOp (m : Byte) (s : State) : State := setZN m (setY m s)

/-- `OpWrite(ea, a)`: no flag (R144). -/
def staOp (addr : Word) (s : State) : State := memWrite addr s.a s

/-- `OpWrite(ea, x)`: no flag (R145). -/
def stxOp (addr : Word) (s : State) : State := memWrite addr s.x s

/-- `OpWrite(ea, y)`: no flag (R146). -/
def styOp (addr : Word) (s : State) : State := memWrite addr s.y s

/-- `x <- a; SetZN(x)` (R147). -/
def taxOp (s : State) : State := setZN s.a (setX s.a s)

/-- `y <- a; SetZN(y)` (R148). -/
def tayOp (s : State) : State := setZN s.a (setY s.a s)

/-- `a <- x; SetZN(a)` (R149). -/
def txaOp (s : State) : State := setZN s.x (setA s.x s)

/-- `a <- y; SetZN(a)` (R150). -/
def tyaOp (s : State) : State := setZN s.y (setA s.y s)

/-- `x <- sp; SetZN(x)` (R151). -/
def tsxOp (s : State) : State := setZN s.sp (setX s.sp s)

/-- `sp <- x`: the one transfer that writes no flag (R152). -/
def txsOp (s : State) : State := setSp s.x s

/-- `LDA ($nn,X)` (R141, R110). -/
def execLdaIndX (b : Byte) (s : State) : Result := .next (runRead 0xA1 (.indx b) ldaOp s)
/-- `LDA $nn` (R141, R104). -/
def execLdaZp (b : Byte) (s : State) : Result := .next (runRead 0xA5 (.zp b) ldaOp s)
/-- `LDA #$nn` (R141, R103). -/
def execLdaImm (b : Byte) (s : State) : Result := .next (runImm 0xA9 b ldaOp s)
/-- `LDA $nnnn` (R141, R107). -/
def execLdaAbs (w : Word) (s : State) : Result := .next (runRead 0xAD (.abs w) ldaOp s)
/-- `LDA ($nn),Y` (R141, R111). -/
def execLdaIndY (b : Byte) (s : State) : Result := .next (runRead 0xB1 (.indy b) ldaOp s)
/-- `LDA $nn,X` (R141, R105). -/
def execLdaZpX (b : Byte) (s : State) : Result := .next (runRead 0xB5 (.zpx b) ldaOp s)
/-- `LDA $nnnn,Y` (R141, R109). -/
def execLdaAbsY (w : Word) (s : State) : Result := .next (runRead 0xB9 (.absy w) ldaOp s)
/-- `LDA $nnnn,X` (R141, R108). -/
def execLdaAbsX (w : Word) (s : State) : Result := .next (runRead 0xBD (.absx w) ldaOp s)
/-- `LDX #$nn` (R142, R103). -/
def execLdxImm (b : Byte) (s : State) : Result := .next (runImm 0xA2 b ldxOp s)
/-- `LDX $nn` (R142, R104). -/
def execLdxZp (b : Byte) (s : State) : Result := .next (runRead 0xA6 (.zp b) ldxOp s)
/-- `LDX $nnnn` (R142, R107). -/
def execLdxAbs (w : Word) (s : State) : Result := .next (runRead 0xAE (.abs w) ldxOp s)
/-- `LDX $nn,Y` (R142, R106). -/
def execLdxZpY (b : Byte) (s : State) : Result := .next (runRead 0xB6 (.zpy b) ldxOp s)
/-- `LDX $nnnn,Y` (R142, R109). -/
def execLdxAbsY (w : Word) (s : State) : Result := .next (runRead 0xBE (.absy w) ldxOp s)
/-- `LDY #$nn` (R143, R103). -/
def execLdyImm (b : Byte) (s : State) : Result := .next (runImm 0xA0 b ldyOp s)
/-- `LDY $nn` (R143, R104). -/
def execLdyZp (b : Byte) (s : State) : Result := .next (runRead 0xA4 (.zp b) ldyOp s)
/-- `LDY $nnnn` (R143, R107). -/
def execLdyAbs (w : Word) (s : State) : Result := .next (runRead 0xAC (.abs w) ldyOp s)
/-- `LDY $nn,X` (R143, R105). -/
def execLdyZpX (b : Byte) (s : State) : Result := .next (runRead 0xB4 (.zpx b) ldyOp s)
/-- `LDY $nnnn,X` (R143, R108). -/
def execLdyAbsX (w : Word) (s : State) : Result := .next (runRead 0xBC (.absx w) ldyOp s)
/-- `STA ($nn,X)` (R144, R110). -/
def execStaIndX (b : Byte) (s : State) : Result := .next (runAddr 0x81 (.indx b) staOp s)
/-- `STA $nn` (R144, R104). -/
def execStaZp (b : Byte) (s : State) : Result := .next (runAddr 0x85 (.zp b) staOp s)
/-- `STA $nnnn` (R144, R107). -/
def execStaAbs (w : Word) (s : State) : Result := .next (runAddr 0x8D (.abs w) staOp s)
/-- `STA ($nn),Y` (R144, R111). -/
def execStaIndY (b : Byte) (s : State) : Result := .next (runAddr 0x91 (.indy b) staOp s)
/-- `STA $nn,X` (R144, R105). -/
def execStaZpX (b : Byte) (s : State) : Result := .next (runAddr 0x95 (.zpx b) staOp s)
/-- `STA $nnnn,Y` (R144, R109). -/
def execStaAbsY (w : Word) (s : State) : Result := .next (runAddr 0x99 (.absy w) staOp s)
/-- `STA $nnnn,X` (R144, R108). -/
def execStaAbsX (w : Word) (s : State) : Result := .next (runAddr 0x9D (.absx w) staOp s)
/-- `STX $nn` (R145, R104). -/
def execStxZp (b : Byte) (s : State) : Result := .next (runAddr 0x86 (.zp b) stxOp s)
/-- `STX $nnnn` (R145, R107). -/
def execStxAbs (w : Word) (s : State) : Result := .next (runAddr 0x8E (.abs w) stxOp s)
/-- `STX $nn,Y` (R145, R106). -/
def execStxZpY (b : Byte) (s : State) : Result := .next (runAddr 0x96 (.zpy b) stxOp s)
/-- `STY $nn` (R146, R104). -/
def execStyZp (b : Byte) (s : State) : Result := .next (runAddr 0x84 (.zp b) styOp s)
/-- `STY $nnnn` (R146, R107). -/
def execStyAbs (w : Word) (s : State) : Result := .next (runAddr 0x8C (.abs w) styOp s)
/-- `STY $nn,X` (R146, R105). -/
def execStyZpX (b : Byte) (s : State) : Result := .next (runAddr 0x94 (.zpx b) styOp s)
/-- `TAX` (R147, R101). -/
def execTax (s : State) : Result := .next (runImplied 0xAA taxOp s)
/-- `TAY` (R148, R101). -/
def execTay (s : State) : Result := .next (runImplied 0xA8 tayOp s)
/-- `TXA` (R149, R101). -/
def execTxa (s : State) : Result := .next (runImplied 0x8A txaOp s)
/-- `TYA` (R150, R101). -/
def execTya (s : State) : Result := .next (runImplied 0x98 tyaOp s)
/-- `TSX` (R151, R101). -/
def execTsx (s : State) : Result := .next (runImplied 0xBA tsxOp s)
/-- `TXS` (R152, R101). -/
def execTxs (s : State) : Result := .next (runImplied 0x9A txsOp s)

end Sys2Proof.Machine
end

