-- ==== Sys2Proof/Machine/ShiftInc.lean ====
section
/-! DEFINITION. Shifts, rotates, increments and decrements (R190 to R200 of
`44_shift_incdec.md`).
The handlers first, each the pseudocode of its rule on the state with `pc` advanced (R124, R125); then one meaning
for every opcode byte: its opcode, its mode, its handler. -/

namespace Sys2Proof.Machine

/-- A read-modify-write of one operand: one read, one write of the same place, Z and N from the value written
(R190). -/
def modifyOperand (f : Byte → Byte) (ea : EA) (s : State) : State :=
  setZN (f (opRead ea s)) (opWrite ea (f (opRead ea s)) s)

/-- `r <- (m << 1) & 0xFF` (R191). -/
def aslResult (m : Byte) : Byte := m <<< 1
/-- `r <- m >> 1` (R192). -/
def lsrResult (m : Byte) : Byte := m >>> 1
/-- `r <- ((m << 1) | C) & 0xFF` (R193). -/
def rolResult (c : Bool) (m : Byte) : Byte := m <<< 1 ||| (if c then 0x01 else 0x00)
/-- `r <- (m >> 1) | (C << 7)` (R194). -/
def rorResult (c : Bool) (m : Byte) : Byte := m >>> 1 ||| (if c then 0x80 else 0x00)

/-- ASL: carry takes bit 7 (R191). -/
def aslOp (ea : EA) (s : State) : State := setC ((opRead ea s).getLsbD 7) (modifyOperand aslResult ea s)

/-- LSR: carry takes bit 0 (R192). -/
def lsrOp (ea : EA) (s : State) : State := setC ((opRead ea s).getLsbD 0) (modifyOperand lsrResult ea s)

/-- ROL: the old carry comes in at bit 0, carry takes bit 7 (R193). -/
def rolOp (ea : EA) (s : State) : State := setC ((opRead ea s).getLsbD 7) (modifyOperand (rolResult s.flags.c) ea s)

/-- ROR: the old carry comes in at bit 7, carry takes bit 0 (R194). -/
def rorOp (ea : EA) (s : State) : State := setC ((opRead ea s).getLsbD 0) (modifyOperand (rorResult s.flags.c) ea s)

/-- `r <- (m + 1) & 0xFF` (R195, R274). -/
def incOp (ea : EA) (s : State) : State := modifyOperand (· + 1) ea s

/-- `r <- (m − 1) & 0xFF` (R196, R275). -/
def decOp (ea : EA) (s : State) : State := modifyOperand (· - 1) ea s

/-- `x <- (x + 1) & 0xFF; SetZN(x)` (R197). -/
def inxOp (s : State) : State := setZN (s.x + 1) (setX (s.x + 1) s)

/-- `y <- (y + 1) & 0xFF; SetZN(y)` (R198). -/
def inyOp (s : State) : State := setZN (s.y + 1) (setY (s.y + 1) s)

/-- `x <- (x − 1) & 0xFF; SetZN(x)` (R199). -/
def dexOp (s : State) : State := setZN (s.x - 1) (setX (s.x - 1) s)

/-- `y <- (y − 1) & 0xFF; SetZN(y)` (R200). -/
def deyOp (s : State) : State := setZN (s.y - 1) (setY (s.y - 1) s)

/-- `ASL $nn` (R191, R104). -/
def execAslZp (b : Byte) (s : State) : Result := .next (runModify 0x06 (.zp b) aslOp s)
/-- `ASL A` (R191, R102). -/
def execAslA (s : State) : Result := .next (runAcc 0x0A aslOp s)
/-- `ASL $nnnn` (R191, R107). -/
def execAslAbs (w : Word) (s : State) : Result := .next (runModify 0x0E (.abs w) aslOp s)
/-- `ASL $nn,X` (R191, R105). -/
def execAslZpX (b : Byte) (s : State) : Result := .next (runModify 0x16 (.zpx b) aslOp s)
/-- `ASL $nnnn,X` (R191, R108). -/
def execAslAbsX (w : Word) (s : State) : Result := .next (runModify 0x1E (.absx w) aslOp s)
/-- `LSR $nn` (R192, R104). -/
def execLsrZp (b : Byte) (s : State) : Result := .next (runModify 0x46 (.zp b) lsrOp s)
/-- `LSR A` (R192, R102). -/
def execLsrA (s : State) : Result := .next (runAcc 0x4A lsrOp s)
/-- `LSR $nnnn` (R192, R107). -/
def execLsrAbs (w : Word) (s : State) : Result := .next (runModify 0x4E (.abs w) lsrOp s)
/-- `LSR $nn,X` (R192, R105). -/
def execLsrZpX (b : Byte) (s : State) : Result := .next (runModify 0x56 (.zpx b) lsrOp s)
/-- `LSR $nnnn,X` (R192, R108). -/
def execLsrAbsX (w : Word) (s : State) : Result := .next (runModify 0x5E (.absx w) lsrOp s)
/-- `ROL $nn` (R193, R104). -/
def execRolZp (b : Byte) (s : State) : Result := .next (runModify 0x26 (.zp b) rolOp s)
/-- `ROL A` (R193, R102). -/
def execRolA (s : State) : Result := .next (runAcc 0x2A rolOp s)
/-- `ROL $nnnn` (R193, R107). -/
def execRolAbs (w : Word) (s : State) : Result := .next (runModify 0x2E (.abs w) rolOp s)
/-- `ROL $nn,X` (R193, R105). -/
def execRolZpX (b : Byte) (s : State) : Result := .next (runModify 0x36 (.zpx b) rolOp s)
/-- `ROL $nnnn,X` (R193, R108). -/
def execRolAbsX (w : Word) (s : State) : Result := .next (runModify 0x3E (.absx w) rolOp s)
/-- `ROR $nn` (R194, R104). -/
def execRorZp (b : Byte) (s : State) : Result := .next (runModify 0x66 (.zp b) rorOp s)
/-- `ROR A` (R194, R102). -/
def execRorA (s : State) : Result := .next (runAcc 0x6A rorOp s)
/-- `ROR $nnnn` (R194, R107). -/
def execRorAbs (w : Word) (s : State) : Result := .next (runModify 0x6E (.abs w) rorOp s)
/-- `ROR $nn,X` (R194, R105). -/
def execRorZpX (b : Byte) (s : State) : Result := .next (runModify 0x76 (.zpx b) rorOp s)
/-- `ROR $nnnn,X` (R194, R108). -/
def execRorAbsX (w : Word) (s : State) : Result := .next (runModify 0x7E (.absx w) rorOp s)
/-- `INC $nn` (R195, R104). -/
def execIncZp (b : Byte) (s : State) : Result := .next (runModify 0xE6 (.zp b) incOp s)
/-- `INC $nnnn` (R195, R107). -/
def execIncAbs (w : Word) (s : State) : Result := .next (runModify 0xEE (.abs w) incOp s)
/-- `INC $nn,X` (R195, R105). -/
def execIncZpX (b : Byte) (s : State) : Result := .next (runModify 0xF6 (.zpx b) incOp s)
/-- `INC $nnnn,X` (R195, R108). -/
def execIncAbsX (w : Word) (s : State) : Result := .next (runModify 0xFE (.absx w) incOp s)
/-- `DEC $nn` (R196, R104). -/
def execDecZp (b : Byte) (s : State) : Result := .next (runModify 0xC6 (.zp b) decOp s)
/-- `DEC $nnnn` (R196, R107). -/
def execDecAbs (w : Word) (s : State) : Result := .next (runModify 0xCE (.abs w) decOp s)
/-- `DEC $nn,X` (R196, R105). -/
def execDecZpX (b : Byte) (s : State) : Result := .next (runModify 0xD6 (.zpx b) decOp s)
/-- `DEC $nnnn,X` (R196, R108). -/
def execDecAbsX (w : Word) (s : State) : Result := .next (runModify 0xDE (.absx w) decOp s)
/-- `INX` (R197, R101). -/
def execInx (s : State) : Result := .next (runImplied 0xE8 inxOp s)
/-- `INY` (R198, R101). -/
def execIny (s : State) : Result := .next (runImplied 0xC8 inyOp s)
/-- `DEX` (R199, R101). -/
def execDex (s : State) : Result := .next (runImplied 0xCA dexOp s)
/-- `DEY` (R200, R101). -/
def execDey (s : State) : Result := .next (runImplied 0x88 deyOp s)

end Sys2Proof.Machine
end

