-- ==== Sys2Proof/Machine/Optional.lean ====
section
/-! DEFINITION. The fourteen optional 65C02 opcodes (R270 to R279 of `47_c02_optional.md`). They decode
only when `C02_EXTRA` is true (R270); their meanings do not depend on it.
The handlers first, each the pseudocode of its rule on the state with `pc` advanced (R124, R125); then one meaning
for every opcode byte: its opcode, its mode, its handler. -/

namespace Sys2Proof.Machine

/-- BRA: rule R210 with `cond = true` (R271). -/
def braOp (target : Word) (s : State) : State := branch true target s

/-- `OpWrite(ea, 0x00)`: no flag (R272). -/
def stzOp (addr : Word) (s : State) : State := memWrite addr 0x00 s

/-- Immediate BIT: Z only (R276). -/
def bitImmOp (m : Byte) (s : State) : State := testBits m s

/-- TSB: Z from `a & m` before the write of `m | a` (R277). -/
def tsbOp (ea : EA) (s : State) : State :=
  opWrite ea (opRead ea s ||| s.a) (testBits (opRead ea s) s)

/-- TRB: Z from `a & m` before the write of `m & (a ^ 0xFF)` (R278). -/
def trbOp (ea : EA) (s : State) : State :=
  opWrite ea (opRead ea s &&& (s.a ^^^ 0xFF)) (testBits (opRead ea s) s)

/-- `BRA label` (R271, R114). -/
def execBra (b : Byte) (s : State) : Result := .next (runAddr 0x80 (.rel b) braOp s)
/-- `STZ $nn` (R272, R104). -/
def execStzZp (b : Byte) (s : State) : Result := .next (runAddr 0x64 (.zp b) stzOp s)
/-- `STZ $nn,X` (R272, R105). -/
def execStzZpX (b : Byte) (s : State) : Result := .next (runAddr 0x74 (.zpx b) stzOp s)
/-- `STZ $nnnn` (R272, R107). -/
def execStzAbs (w : Word) (s : State) : Result := .next (runAddr 0x9C (.abs w) stzOp s)
/-- `STZ $nnnn,X` (R272, R108). -/
def execStzAbsX (w : Word) (s : State) : Result := .next (runAddr 0x9E (.absx w) stzOp s)
/-- `INC A` (R274, R102). -/
def execIncA (s : State) : Result := .next (runAcc 0x1A incOp s)
/-- `DEC A` (R275, R102). -/
def execDecA (s : State) : Result := .next (runAcc 0x3A decOp s)
/-- `BIT $nn,X` (R276, R105). -/
def execBitZpX (b : Byte) (s : State) : Result := .next (runRead 0x34 (.zpx b) bitOp s)
/-- `BIT $nnnn,X` (R276, R108). -/
def execBitAbsX (w : Word) (s : State) : Result := .next (runRead 0x3C (.absx w) bitOp s)
/-- `BIT #$nn` (R276, R103). -/
def execBitImm (b : Byte) (s : State) : Result := .next (runImm 0x89 b bitImmOp s)
/-- `TSB $nn` (R277, R104). -/
def execTsbZp (b : Byte) (s : State) : Result := .next (runModify 0x04 (.zp b) tsbOp s)
/-- `TSB $nnnn` (R277, R107). -/
def execTsbAbs (w : Word) (s : State) : Result := .next (runModify 0x0C (.abs w) tsbOp s)
/-- `TRB $nn` (R278, R104). -/
def execTrbZp (b : Byte) (s : State) : Result := .next (runModify 0x14 (.zp b) trbOp s)
/-- `TRB $nnnn` (R278, R107). -/
def execTrbAbs (w : Word) (s : State) : Result := .next (runModify 0x1C (.abs w) trbOp s)

end Sys2Proof.Machine
end

