-- ==== Sys2Proof/Machine/StackSystem.lean ====
section
/-! DEFINITION. Stack, flag and system instructions (R240 to R259 of `46_stack_flags_system.md`).
The handlers first, each the pseudocode of its rule on the state with `pc` advanced (R124, R125); then one meaning
for every opcode byte: its opcode, its mode, its handler. -/

namespace Sys2Proof.Machine

/-- `Push(a)` (R242). -/
def phaOp (s : State) : State := push s.a s

/-- `a <- Pop(); SetZN(a)` (R243). -/
def plaOp (s : State) : State := setZN (popByte s) (setA (popByte s) (popped s))

/-- Pushes the packed status (R244). -/
def phpOp (s : State) : State := push (pushedStatus s) s

/-- `Unpack(Pop())` (R245). -/
def plpOp (s : State) : State := setFlags (unpack (popByte s)) (popped s)

/-- `Push(x)` (R246). -/
def phxOp (s : State) : State := push s.x s

/-- `x <- Pop(); SetZN(x)` (R247). -/
def plxOp (s : State) : State := setZN (popByte s) (setX (popByte s) (popped s))

/-- `Push(y)` (R248). -/
def phyOp (s : State) : State := push s.y s

/-- `y <- Pop(); SetZN(y)` (R249). -/
def plyOp (s : State) : State := setZN (popByte s) (setY (popByte s) (popped s))

/-- `C <- 0` (R250). -/
def clcOp (s : State) : State := setC false s

/-- `C <- 1` (R251). -/
def secOp (s : State) : State := setC true s

/-- `I <- 0` (R252). -/
def cliOp (s : State) : State := setI false s

/-- `I <- 1` (R253). -/
def seiOp (s : State) : State := setI true s

/-- `D <- 0` (R254). -/
def cldOp (s : State) : State := setD false s

/-- `D <- 1` (R255). -/
def sedOp (s : State) : State := setD true s

/-- `V <- 0` (R256). -/
def clvOp (s : State) : State := setV false s

/-- NOP: nothing (R257). -/
def nopOp (s : State) : State := s

/-- BRK: `raise BreakHalt` and nothing else: no push, no flag, no vector, no padding byte (R258, R303). -/
def brkOp (s : State) : State := raise .breakHalt s

/-- `PHA` (R242, R101). -/
def execPha (s : State) : Result := .next (runImplied 0x48 phaOp s)
/-- `PLA` (R243, R101). -/
def execPla (s : State) : Result := .next (runImplied 0x68 plaOp s)
/-- `PHP` (R244, R101). -/
def execPhp (s : State) : Result := .next (runImplied 0x08 phpOp s)
/-- `PLP` (R245, R101). -/
def execPlp (s : State) : Result := .next (runImplied 0x28 plpOp s)
/-- `PHX` (R246, R101). -/
def execPhx (s : State) : Result := .next (runImplied 0xDA phxOp s)
/-- `PLX` (R247, R101). -/
def execPlx (s : State) : Result := .next (runImplied 0xFA plxOp s)
/-- `PHY` (R248, R101). -/
def execPhy (s : State) : Result := .next (runImplied 0x5A phyOp s)
/-- `PLY` (R249, R101). -/
def execPly (s : State) : Result := .next (runImplied 0x7A plyOp s)
/-- `CLC` (R250, R101). -/
def execClc (s : State) : Result := .next (runImplied 0x18 clcOp s)
/-- `SEC` (R251, R101). -/
def execSec (s : State) : Result := .next (runImplied 0x38 secOp s)
/-- `CLI` (R252, R101). -/
def execCli (s : State) : Result := .next (runImplied 0x58 cliOp s)
/-- `SEI` (R253, R101). -/
def execSei (s : State) : Result := .next (runImplied 0x78 seiOp s)
/-- `CLD` (R254, R101). -/
def execCld (s : State) : Result := .next (runImplied 0xD8 cldOp s)
/-- `SED` (R255, R101). -/
def execSed (s : State) : Result := .next (runImplied 0xF8 sedOp s)
/-- `CLV` (R256, R101). -/
def execClv (s : State) : Result := .next (runImplied 0xB8 clvOp s)
/-- `NOP` (R257, R101). -/
def execNop (s : State) : Result := .next (runImplied 0xEA nopOp s)
/-- `BRK` (R258, R101). -/
def execBrk (s : State) : Result := .next (runImplied 0x00 brkOp s)

end Sys2Proof.Machine
end

