-- ==== Sys2Proof/Machine/Tick.lean ====
section
/-! DEFINITION. `Tick()` (R120 of `41_dispatch_and_cycles.md`), and how an instruction is placed for the next one. -/

namespace Sys2Proof.Machine

/-- A fetch tick (R123): line 1 clears `bonus`, then an undefined opcode raises IllegalOpcode with nothing else done
(R301), and an instruction is executed whole (R122). -/
def fetchTick (s : State) : Result :=
  match fetch s with
  | .error _ => .next (raise .illegalOpcode (clearBonus s))
  | .ok i => exec i (clearBonus s)

/-- `Tick()` (R120): burn down the cycles of the last instruction; else, halted, change nothing (R129); else fetch.
Before `pc` has been seeded a tick has no meaning (R47, log 6). -/
def tick (s : State) : Result :=
  if s.pcSeeded then
    if 0 < s.cyc then .next (burn s)
    else if halted s then .next s
    else fetchTick s
  else .refused .pcNotSeeded

/-- The opcode byte belongs to the group that only `C02_EXTRA` admits (R84). -/
def isOptional (op : Byte) : Bool :=
  match lookup op with
  | some r => r.group == .c02Optional
  | none => false

/-- The state with the first three bytes of a table word stored at `pc`, ready to fetch them: `pc` seeded, no cycle
left, no latch set, and `C02_EXTRA` on where the opcode needs it (log 5). -/
def placeInstruction (s : State) (nbits w : Nat) : State :=
  let v := w % 2 ^ nbits
  let stored := memWrite (s.pc + 2) (BitVec.ofNat 8 (v / 65536))
    (memWrite (s.pc + 1) (BitVec.ofNat 8 (v / 256)) (memWrite s.pc (BitVec.ofNat 8 v) s))
  { stored with
    cyc := 0
    brkHalt := false
    illegal := false
    pcSeeded := true
    cfg := if isOptional (BitVec.ofNat 8 v) then { s.cfg with c02Extra := true } else s.cfg }

end Sys2Proof.Machine
end

