-- ==== Sys2Proof/Machine/Step.lean ====
section
/-! DEFINITION. One step of the machine is one `Tick()` (R120). -/

namespace Sys2Proof.Machine

/-- `Tick()`, the only way the CORE's state advances (R120). -/
def step (s : State) : Host.Outcome State Fault Refusal := tick s

/-- `s` with an instruction of `nbits` bits `w`, numbered as the opcode table numbers them, where the next step fetches
(log 5). -/
def State.withFetchWord (s : State) (nbits w : Nat) : State := placeInstruction s nbits w

end Sys2Proof.Machine
end

