-- ==== Sys2Proof/Machine/HostOps.lean ====
section
/-! DEFINITION. The host interface (R45 of `10_state.md`, R316 to R320 of `60_exceptions.md`, R330 to R334 of
`70_reset_and_hazards.md`): the fifteen operations, each atomic and made only between ticks (R317), and the machine at
construction (R47). -/

namespace Sys2Proof.Machine

/-- The machine at construction (R47): a Memory Image of the host's choice (R58, R334), the reset values everywhere but
in `pc`, which nothing has seeded. -/
def construct (cfg : Config) (image : Memory) : State where
  pc := Config.unseededPc
  sp := cfg.resetSP
  a := cfg.resetA
  x := cfg.resetX
  y := cfg.resetY
  flags := unpack cfg.resetP
  cyc := 0
  bonus := 0
  brkHalt := false
  illegal := false
  mem := image
  pcSeeded := false
  cfg := cfg

/-- `Reset()` (R330): the only way out of the halted state (R309, R332). The Memory Image is read, not written. -/
def hostReset (s : State) : State :=
  { s with
    a := s.cfg.resetA
    x := s.cfg.resetX
    y := s.cfg.resetY
    sp := s.cfg.resetSP
    flags := unpack s.cfg.resetP
    pc := memRead16 s 0xFFFC
    cyc := 0
    brkHalt := false
    illegal := false
    bonus := 0
    pcSeeded := true }

/-- `SetPC(addr)`: `pc <- addr & 0xFFFF` (R45, R331). -/
def hostSetPc (addr : Nat) (s : State) : State := { s with pc := BitVec.ofNat 16 addr, pcSeeded := true }

/-- `GetStatus()` returns `Pack()` (R45). -/
def getStatus (s : State) : Byte := pack s.flags

/-- `SetStatus(v)` performs `Unpack(v)` (R45). -/
def setStatus (v : Byte) (s : State) : State := setFlags (unpack v) s

/-- `HostRead(addr) = Mem[addr & 0xFFFF]` (R318). -/
def hostRead (addr : Nat) (s : State) : Byte := memRead s (BitVec.ofNat 16 addr)

/-- `HostWrite(addr, v)`: `Mem[addr & 0xFFFF] <- v & 0xFF` (R318). -/
def hostWrite (addr v : Nat) (s : State) : State := memWrite (BitVec.ofNat 16 addr) (BitVec.ofNat 8 v) s

/-- The driver feeds an input event into the designated byte, which is ordinary memory (R314, log 7). -/
def feedInput (v : Nat) (s : State) : State := hostWrite Config.inputByteAddr.toNat v s

/-- `IsHalted()` (R316). -/
def isHalted (s : State) : Bool := halted s

/-- The complete host interface (R320). -/
inductive HostCall where
  | reset
  | setPc (addr : Nat)
  | tick
  | getPc
  | getSp
  | getA
  | getX
  | getY
  | getStatus
  | setStatus (v : Byte)
  | hostRead (addr : Nat)
  | hostWrite (addr v : Nat)
  | breakIndicator
  | illegalIndicator
  | isHalted
deriving DecidableEq, Repr

/-- What a call returns to the host. -/
inductive Answer where
  | nothing
  | byte (v : Byte)
  | word (v : Word)
  | bit (v : Bool)
deriving DecidableEq, Repr

/-- The value a call returns: the named register, the packed status, a byte of memory, a latch (R45, R316, R318). -/
def HostCall.answer (k : HostCall) (s : State) : Answer :=
  match k with
  | .reset => .nothing
  | .setPc _ => .nothing
  | .tick => .nothing
  | .getPc => .word s.pc
  | .getSp => .byte s.sp
  | .getA => .byte s.a
  | .getX => .byte s.x
  | .getY => .byte s.y
  | .getStatus => .byte (Sys2Proof.Machine.getStatus s)
  | .setStatus _ => .nothing
  | .hostRead addr => .byte (Sys2Proof.Machine.hostRead addr s)
  | .hostWrite _ _ => .nothing
  | .breakIndicator => .bit s.brkHalt
  | .illegalIndicator => .bit s.illegal
  | .isHalted => .bit (Sys2Proof.Machine.isHalted s)

/-- The effect of a call: the getters and observers are pure reads (R45). -/
def HostCall.apply (k : HostCall) (s : State) : Result :=
  match k with
  | .reset => .next (hostReset s)
  | .setPc addr => .next (hostSetPc addr s)
  | .tick => step s
  | .getPc => .next s
  | .getSp => .next s
  | .getA => .next s
  | .getX => .next s
  | .getY => .next s
  | .getStatus => .next s
  | .setStatus v => .next (Sys2Proof.Machine.setStatus v s)
  | .hostRead _ => .next s
  | .hostWrite addr v => .next (Sys2Proof.Machine.hostWrite addr v s)
  | .breakIndicator => .next s
  | .illegalIndicator => .next s
  | .isHalted => .next s

/-- A schedule of calls, in order, ticks among them (R43, R317). -/
def runCalls : List HostCall → State → Result
  | [], s => .next s
  | k :: rest, s =>
    match k.apply s with
    | .next t => runCalls rest t
    | .fault r => .fault r
    | .refused r => .refused r

end Sys2Proof.Machine
end

