-- ==== Sys2Proof/Safety.lean ====
section
/-! DEFINITION. How a run ends (R305 of `60_exceptions.md`), and the facts about a state that the spec says always hold,
in the terms the claims use. -/

namespace Sys2Proof.Machine

/-- A run has ended: halted, with no cycle left to burn (R305). -/
def RunEnded (s : State) : Prop := halted s = true ∧ s.cyc = 0

/-- It ended normally: by BRK (R305). -/
def EndedNormally (s : State) : Prop := s.brkHalt = true ∧ s.illegal = false ∧ s.cyc = 0

/-- It faulted: by an illegal opcode (R305). -/
def Faulted (s : State) : Prop := s.illegal = true ∧ s.cyc = 0

/-- What holds of every state of a run: the Memory Image is in canonical form; at most one condition is latched (R307);
an illegal opcode leaves no cycle to burn (R301); the bonus is 0, 1 or 2 (R41). -/
structure Inv (s : State) : Prop where
  memory : Memory.wf s.mem = true
  oneCondition : (s.brkHalt && s.illegal) = false
  illegalAtRest : s.illegal = true → s.cyc = 0
  bonusRange : s.bonus ≤ 2

/-- The range of the Cycle Counter under the default tables: 0 to 7 (R38, R352). -/
def CycleRange (s : State) : Prop := s.cfg.defaultTiming = true ∧ s.cyc ≤ 7

/-- Two states agree on everything R131 calls the register file and memory, and on the latches and the parameters that
are not timing; they may differ in `cyc`, `bonus` and the timing parameters. -/
def AgreeButTiming (s t : State) : Prop :=
  { s with
    cyc := t.cyc
    bonus := t.bonus
    cfg := { s.cfg with
      baseCycles := t.cfg.baseCycles
      pageCross := t.cfg.pageCross
      tickBias := t.cfg.tickBias } } = t

end Sys2Proof.Machine
end

