-- ==== Sys2Proof/Certificates/Slice0/Obligations.lean ====
section
/-! DEFINITION. What the spec says the instructions and the machine do, as statements for the provers. Each cites the
rules it formalises in `OBLIGATIONS.json`; a docstring says so where a clause is the model's own. -/

namespace Sys2Proof.Claims

open Machine

/-- What a completed instruction leaves besides its own effect `after`: `pc`, the bonus raised by `extra`, and the
countdown re-armed with the base count of its opcode and the bonus, less `TICK_BIAS` (R123, lines 7, 8 and 10). -/
def finished (op : Byte) (pc : Word) (extra : Nat) (s after : State) : State :=
  { after with
    pc := pc
    bonus := s.bonus + extra
    cyc := baseCycles s.cfg op + (s.bonus + extra) - s.cfg.tickBias.val }

/-- The opcode byte of an instruction, and its base count in the default table. -/
def Encoded (i : Instr) (op : Byte) (base : Nat) : Prop := opcodeOf i = op ∧ baseCycles {} op = base

/-- `i`, of opcode `op`, `len` bytes and `base` cycles, completes: `after`, with `pc` past the instruction and the
countdown re-armed. Every register, flag, latch and byte of memory is as in `after`. -/
def Completes (i : Instr) (op : Byte) (len base : Nat) (s after : State) : Prop :=
  Encoded i op base ∧ exec i s = .next (finished op (s.pc + BitVec.ofNat 16 len) 0 s after)

/-- The same, of an instruction that puts `target` in `pc`. -/
def Jumps (i : Instr) (op : Byte) (base : Nat) (target : Word) (s after : State) : Prop :=
  Encoded i op base ∧ exec i s = .next (finished op target 0 s after)

/-- `i` completes and changes memory in the one byte at `addr`, which is now `v`; `extra` cycles are added. -/
def CompletesStoring (i : Instr) (op : Byte) (len base extra : Nat) (addr : Word) (v : Byte) (s after : State) :
    Prop :=
  Encoded i op base ∧ ∃ t, exec i s = .next t ∧
    t = { finished op (s.pc + BitVec.ofNat 16 len) extra s after with mem := t.mem } ∧
    ∀ k, memRead t k = if k = addr then v else memRead s k

/-- A form of an instruction with a memory operand, as the operand list and the cycle line of its rule give it. -/
structure FormRow where
  instr : Instr
  opcode : Byte
  mode : AddrMode
  length : Nat
  base : Nat
  /-- `+p`: a page crossing costs one cycle more under the default `PAGE_CROSS_SET`. -/
  plusP : Bool

/-- The cycles a page crossing adds to a form in `s` (R127). -/
def FormRow.extra (f : FormRow) (s : State) : Nat :=
  if crossed f.mode s = true ∧ paysCrossing s.cfg f.opcode = true then 1 else 0

/-- Each form listed completes on the byte its mode addresses. -/
def ReadsOperand (forms : List FormRow) (s : State) (after : Byte → State) : Prop :=
  ∀ f ∈ forms, Encoded f.instr f.opcode f.base ∧ paysCrossing {} f.opcode = f.plusP ∧
    exec f.instr s = .next (finished f.opcode (s.pc + BitVec.ofNat 16 f.length) (f.extra s) s
      (after (memRead s (effAddr f.mode s))))

/-- Each form listed stores `v` at the address its mode computes, and changes nothing else. -/
def StoresRegister (forms : List FormRow) (s : State) (v : Byte) : Prop :=
  ∀ f ∈ forms, paysCrossing {} f.opcode = f.plusP ∧
    CompletesStoring f.instr f.opcode f.length f.base (f.extra s) (effAddr f.mode s) v s s

/-- Each form listed replaces the byte `m` its mode addresses by `result m`, and changes nothing else but the flags. -/
def ModifiesMemory (forms : List FormRow) (s : State) (result : Byte → Byte) (flags : Byte → Flags) : Prop :=
  ∀ f ∈ forms, paysCrossing {} f.opcode = f.plusP ∧
    CompletesStoring f.instr f.opcode f.length f.base (f.extra s) (effAddr f.mode s)
      (result (memRead s (effAddr f.mode s))) s { s with flags := flags (memRead s (effAddr f.mode s)) }

/-- The flags with `Z` and `N` of a result: zero, and at least 0x80 (R31, R36). -/
def withZN (f : Flags) (r : Byte) : Flags := { f with z := decide (r = 0), n := decide (0x80 ≤ r.toNat) }

/-- The stack cell of a stack pointer, as a number: `0x0100 + sp` (R24). -/
def stackCell (sp : Nat) : Word := BitVec.ofNat 16 (0x100 + sp % 256)

/-- The bytes illegal in every configuration (R89). -/
def alwaysIllegal : List Byte :=
  [0x02, 0x03, 0x07, 0x0B, 0x0F, 0x12, 0x13, 0x17, 0x1B, 0x1F, 0x22, 0x23, 0x27, 0x2B, 0x2F, 0x32, 0x33, 0x37]
  ++ [0x3B, 0x3F, 0x42, 0x43, 0x44, 0x47, 0x4B, 0x4F, 0x52, 0x53, 0x54, 0x57, 0x5B, 0x5C, 0x5F, 0x62, 0x63, 0x67]
  ++ [0x6B, 0x6F, 0x72, 0x73, 0x77, 0x7B, 0x7F, 0x82, 0x83, 0x87, 0x8B, 0x8F, 0x92, 0x93, 0x97, 0x9B, 0x9F, 0xA3]
  ++ [0xA7, 0xAB, 0xAF, 0xB2, 0xB3, 0xB7, 0xBB, 0xBF, 0xC2, 0xC3, 0xC7, 0xCB, 0xCF, 0xD2, 0xD3, 0xD4, 0xD7, 0xDB]
  ++ [0xDC, 0xDF, 0xE2, 0xE3, 0xE7, 0xEB, 0xEF, 0xF2, 0xF3, 0xF4, 0xF7, 0xFB, 0xFC, 0xFF]

/-- The bytes illegal only when `C02_EXTRA` is false (R89, R270). -/
def optionalBytes : List Byte :=
  [0x04, 0x0C, 0x14, 0x1A, 0x1C, 0x34, 0x3A, 0x3C, 0x64, 0x74, 0x80, 0x89, 0x9C, 0x9E]

end Sys2Proof.Claims

open Sys2Proof Sys2Proof.Machine Sys2Proof.Claims

/-! ## Encoding -/

/-- Decoding the bytes of an instruction that exists in a configuration gives it back, whatever follows it. -/
def Obligations.DecodeAfterEncode : Prop :=
  ∀ (c02Extra : Bool) (i : Instr) (rest : List Byte), i.wellFormed c02Extra = true →
    decode c02Extra (encode i ++ rest) = .ok (i, rest)

/-- What is decoded exists in the configuration, and the bytes were its encoding. -/
def Obligations.DecodedBytesAreTheEncoding : Prop :=
  ∀ (c02Extra : Bool) (bytes : List Byte) (i : Instr) (rest : List Byte),
    decode c02Extra bytes = .ok (i, rest) → i.wellFormed c02Extra = true ∧ bytes = encode i ++ rest

/-- The illegal opcodes are exactly the bytes R89 lists (R88, R89, R270). -/
def Obligations.IllegalOpcodesAreTheListed : Prop :=
  ∀ (c02Extra : Bool) (op : Byte) (rest : List Byte),
    decode c02Extra (op :: rest) = .error (.illegalOpcode op) ↔
      op ∈ alwaysIllegal ∨ (c02Extra = false ∧ op ∈ optionalBytes)

/-- Every row of the decode tables has the length of its mode and a base count of 2 to 7 (R81, R93, R350). -/
def Obligations.TableRowsAreConsistent : Prop :=
  ∀ (op : Byte) (r : Row), lookup op = some r →
    r.opcode = op ∧ 2 ≤ r.base ∧ r.base ≤ 7 ∧
      match r.form with
      | .f0 i => r.mode.operandBytes = 0 ∧ lengthOf i = 1 ∧ i.mode = r.mode ∧ opcodeOf i = op
      | .f1 mk => r.mode.operandBytes = 1 ∧ ∀ b, lengthOf (mk b) = 2 ∧ (mk b).mode = r.mode ∧ opcodeOf (mk b) = op
      | .f2 mk => r.mode.operandBytes = 2 ∧ ∀ w, lengthOf (mk w) = 3 ∧ (mk w).mode = r.mode ∧ opcodeOf (mk w) = op

/-- Words written out from the spec's examples decode to the instructions they stand for. -/
def Obligations.SampleWordsDecode : Prop :=
  decode false [0xA9, 0x10] = .ok (.ldaImm 0x10, []) ∧
    decode false [0xB9, 0x34, 0x12] = .ok (.ldaAbsY 0x1234, []) ∧
    decode false [0x69, 0xFE] = .ok (.adcImm 0xFE, []) ∧
    decode false [0x5E, 0xFF, 0x12] = .ok (.lsrAbsX 0x12FF, []) ∧
    decode false [0xF0, 0x10] = .ok (.beq 0x10, []) ∧
    decode false [0x20, 0x00, 0x90] = .ok (.jsr 0x9000, []) ∧
    decode false [0x28] = .ok (.plp, []) ∧
    decode true [0x9E, 0xFF, 0x12] = .ok (.stzAbsX 0x12FF, [])

/-! ## The tick -/

/-- A fetch tick runs the instruction the bytes at `pc` decode to, with `bonus` cleared first (R123). -/
def Obligations.StepRunsDecodedInstruction : Prop :=
  ∀ (s : State) (i : Instr) (rest : List Byte),
    s.pcSeeded = true → s.cyc = 0 → s.brkHalt = false → s.illegal = false →
    decode s.cfg.c02Extra [memRead s s.pc, memRead s (s.pc + 1), memRead s (s.pc + 2)] = .ok (i, rest) →
      step s = exec i { s with bonus := 0 }

/-- An instruction whose bytes have been stored at `pc` is the one the next fetch tick runs: a store is seen by the very
next fetch, and the operand is the one in memory (R65, R82). -/
def Obligations.StoredInstructionIsFetched : Prop :=
  ∀ (s : State) (i : Instr), Memory.wf s.mem = true → i.wellFormed s.cfg.c02Extra = true →
    s.pcSeeded = true → s.cyc = 0 → s.brkHalt = false → s.illegal = false →
    let t := memWrite (s.pc + 2) ((encode i).getD 2 0)
      (memWrite (s.pc + 1) ((encode i).getD 1 0) (memWrite s.pc ((encode i).getD 0 0) s))
    step t = exec i { t with bonus := 0 }

/-- The operand of a fetched instruction is what memory holds behind the opcode: an immediate operand is the byte at
`pc0 + 1` (R82, R103). -/
def Obligations.FetchedOperandIsInMemory : Prop :=
  ∀ (s : State) (i : Instr), fetch s = .ok i →
    ∀ k, k < lengthOf i → memRead s (s.pc + BitVec.ofNat 16 k) = (encode i).getD k 0

/-- An opcode that is not admitted latches `illegal` and changes nothing else: `pc` stays on it (R301). The transient
`bonus`, cleared at the start of every fetch tick, is 0 (log 8). -/
def Obligations.IllegalOpcodeLatches : Prop :=
  ∀ (s : State), s.pcSeeded = true → s.cyc = 0 → s.brkHalt = false → s.illegal = false →
    (memRead s s.pc ∈ alwaysIllegal ∨ (s.cfg.c02Extra = false ∧ memRead s s.pc ∈ optionalBytes)) →
      step s = .next { s with illegal := true, bonus := 0 }

/-- A burn tick decrements `cyc` and changes nothing else (R121). -/
def Obligations.BurnTickOnlyDecrements : Prop :=
  ∀ (s : State), s.pcSeeded = true → 0 < s.cyc → step s = .next { s with cyc := s.cyc - 1 }

/-- A halted tick changes nothing at all, and `SetPC` and `SetStatus` clear neither latch (R129). -/
def Obligations.HaltedTickChangesNothing : Prop :=
  ∀ (s : State), s.pcSeeded = true → s.cyc = 0 → (s.brkHalt = true ∨ s.illegal = true) →
    step s = .next s ∧ ∀ (addr : Nat) (v : Byte),
      (hostSetPc addr s).brkHalt = s.brkHalt ∧ (hostSetPc addr s).illegal = s.illegal ∧
      (setStatus v s).brkHalt = s.brkHalt ∧ (setStatus v s).illegal = s.illegal

/-- A tick before `Reset()` or `SetPC` has seeded `pc` is refused: the model's reading of "no specified meaning" (R47,
log 6); either host call ends that. -/
def Obligations.UnseededTickIsRefused : Prop :=
  ∀ (s : State), (s.pcSeeded = false → step s = .refused .pcNotSeeded) ∧
    (hostReset s).pcSeeded = true ∧ ∀ addr, (hostSetPc addr s).pcSeeded = true

/-- The cycles of an instruction burn down to the next fetch and change nothing else: after as many ticks as `cyc` says,
the state is the same with `cyc = 0` (R121, R131). -/
def Obligations.BurnTicksReachTheNextFetch : Prop :=
  ∀ (s : State), s.pcSeeded = true → Host.Core.run Sys2Proof.core s.cyc s = .next { s with cyc := 0 }

/-! ## Invariants of a run -/

/-- Every step keeps the invariant: memory in canonical form, at most one condition latched, an illegal opcode at rest,
and the bonus at most 2. -/
def Obligations.StepKeepsInvariant : Prop :=
  ∀ (s t : State), Inv s → step s = .next t → Inv t

/-- The invariant holds right after reset, of the machine with nothing in memory and of any machine whose memory is
canonical. -/
def Obligations.ResetHasInvariant : Prop :=
  Inv State.reset ∧ ∀ (s : State), Memory.wf s.mem = true → Inv (hostReset s)

/-- Under the default cycle tables the Cycle Counter stays in 0 to 7 (R38, R352), whatever ticks and host calls are
made. -/
def Obligations.CycleCounterStaysInRange : Prop :=
  ∀ (calls : List HostCall) (s t : State), CycleRange s → runCalls calls s = .next t → CycleRange t

/-- Nothing changes the parameters: no step and no host operation (R270). -/
def Obligations.ParametersAreFixed : Prop :=
  ∀ (calls : List HostCall) (s t : State), runCalls calls s = .next t → t.cfg = s.cfg

/-- Once halted, the machine stays halted, with the same latches, under any calls but `Reset()`, and every one of them
completes; `Reset()` clears both latches (R129, R304, R309). -/
def Obligations.OnlyResetLeavesTheHaltedState : Prop :=
  (∀ (calls : List HostCall) (s : State), .reset ∉ calls → s.pcSeeded = true →
    (s.brkHalt = true ∨ s.illegal = true) →
      ∃ t, runCalls calls s = .next t ∧ t.brkHalt = s.brkHalt ∧ t.illegal = s.illegal) ∧
    ∀ (s : State), (hostReset s).brkHalt = false ∧ (hostReset s).illegal = false

/-- A step latches `brk_halt` only by fetching BRK, and `illegal` only by fetching a byte that is no admitted opcode;
never both (R39, R40, R307). -/
def Obligations.LatchesHaveTheirCauses : Prop :=
  ∀ (s t : State), s.brkHalt = false → s.illegal = false → step s = .next t →
    (t.brkHalt = true → s.cyc = 0 ∧ memRead s s.pc = 0x00) ∧
    (t.illegal = true → s.cyc = 0 ∧
      (memRead s s.pc ∈ alwaysIllegal ∨ (s.cfg.c02Extra = false ∧ memRead s s.pc ∈ optionalBytes))) ∧
    ¬ (t.brkHalt = true ∧ t.illegal = true)

/-! ## The host interface -/

/-- `Reset()` gives every register its reset value, reads `pc` from the little-endian vector and leaves memory and the
parameters as they are; with the default parameters the values are those of R46. -/
def Obligations.ResetLeavesResetValues : Prop :=
  ∀ (s : State),
    hostReset s = { s with
      pc := BitVec.ofNat 16 (256 * (memRead s 0xFFFD).toNat + (memRead s 0xFFFC).toNat)
      sp := s.cfg.resetSP
      a := s.cfg.resetA
      x := s.cfg.resetX
      y := s.cfg.resetY
      flags := unpack s.cfg.resetP
      cyc := 0
      bonus := 0
      brkHalt := false
      illegal := false
      pcSeeded := true } ∧
    ∀ (image : Memory),
      let t := hostReset (construct {} image)
      t.sp = 0xFD ∧ t.a = 0x00 ∧ t.x = 0x00 ∧ t.y = 0x00 ∧ pack t.flags = 0x24 ∧ t.mem = image

/-- The packed status has each flag at its bit and bit 5 set; unpacking takes every flag from its bit and drops bit 5,
so packing what was unpacked gives the byte with bit 5 set, and unpacking what was packed the flags (R26 to R29). -/
def Obligations.StatusPacksAndUnpacks : Prop :=
  (∀ (f : Flags),
    (pack f).getLsbD 0 = f.c ∧ (pack f).getLsbD 1 = f.z ∧ (pack f).getLsbD 2 = f.i ∧ (pack f).getLsbD 3 = f.d ∧
      (pack f).getLsbD 4 = f.b ∧ (pack f).getLsbD 5 = true ∧ (pack f).getLsbD 6 = f.v ∧ (pack f).getLsbD 7 = f.n ∧
      unpack (pack f) = f) ∧
    ∀ (v : Byte), pack (unpack v) = v ||| 0x20

/-- The accessors: `SetPC` writes `pc` alone (beside the model's own mark that it is seeded, log 6), `SetStatus` the
flags alone, `HostWrite` one byte, masked as R318 says, and `GetStatus` and `HostRead` return what was written (R45,
R318, R331). -/
def Obligations.HostAccessorsTouchTheirField : Prop :=
  ∀ (s : State) (addr v : Nat) (p : Byte) (other : Nat), Memory.wf s.mem = true →
    hostSetPc addr s = { s with pc := BitVec.ofNat 16 (addr % 65536), pcSeeded := true } ∧
    setStatus p s = { s with flags := (setStatus p s).flags } ∧ getStatus (setStatus p s) = p ||| 0x20 ∧
    hostWrite addr v s = { s with mem := (hostWrite addr v s).mem } ∧
    hostRead other (hostWrite addr v s) =
      if other % 65536 = addr % 65536 then BitVec.ofNat 8 (v % 256) else hostRead other s

/-! ## Addressing -/

/-- Zero-page indexing wraps in the zero page and never reaches 0x100 (R104 to R106). -/
def Obligations.ZeroPageIndexingWraps : Prop :=
  ∀ (s : State) (b : Byte),
    (effAddr (.zp b) s).toNat = b.toNat ∧
    (effAddr (.zpx b) s).toNat = (b.toNat + s.x.toNat) % 256 ∧
    (effAddr (.zpy b) s).toNat = (b.toNat + s.y.toNat) % 256 ∧
    crossed (.zp b) s = false ∧ crossed (.zpx b) s = false ∧ crossed (.zpy b) s = false

/-- Absolute modes add the index modulo 65536, and a crossing is reported exactly when the low byte of the base plus the
index reaches 0x100 (R107 to R109, R116). -/
def Obligations.AbsoluteIndexingCrosses : Prop :=
  ∀ (s : State) (w : Word),
    effAddr (.abs w) s = w ∧ crossed (.abs w) s = false ∧
    (effAddr (.absx w) s).toNat = (w.toNat + s.x.toNat) % 65536 ∧
    (effAddr (.absy w) s).toNat = (w.toNat + s.y.toNat) % 65536 ∧
    (crossed (.absx w) s = true ↔ 0x100 ≤ w.toNat % 256 + s.x.toNat) ∧
    (crossed (.absy w) s = true ↔ 0x100 ≤ w.toNat % 256 + s.y.toNat)

/-- The pointer modes read a little-endian pointer where each rule says, with the two parameters at both values
(R110 to R113, R115), and post-indexing crosses as absolute indexing does (R116). -/
def Obligations.PointerModesDereference : Prop :=
  ∀ (s : State) (b : Byte) (w : Word),
    let at_ := fun (k : Nat) => (memRead s (BitVec.ofNat 16 k)).toNat
    let next := fun (z : Nat) => if s.cfg.zpPtrWrap then (z + 1) % 256 else z + 1
    let zx := (b.toNat + s.x.toNat) % 256
    let base := 256 * at_ (next b.toNat) + at_ b.toNat
    let p := (w.toNat + s.x.toNat) % 65536
    let above := if s.cfg.jmpIndPageWrap then w.toNat / 256 * 256 + (w.toNat + 1) % 256 else (w.toNat + 1) % 65536
    (effAddr (.indx b) s).toNat = 256 * at_ (next zx) + at_ zx ∧
    (effAddr (.indy b) s).toNat = (base + s.y.toNat) % 65536 ∧
    (effAddr (.ind w) s).toNat = 256 * at_ above + at_ w.toNat ∧
    (effAddr (.indabsx w) s).toNat = 256 * at_ ((p + 1) % 65536) + at_ p ∧
    (crossed (.indy b) s = true ↔ 0x100 ≤ base % 256 + s.y.toNat) ∧
    crossed (.indx b) s = false ∧ crossed (.ind w) s = false ∧ crossed (.indabsx w) s = false

/-- The Relative target is `pc0 + 2` plus the signed operand, modulo 65536 (R114). -/
def Obligations.RelativeTargetIsSigned : Prop :=
  ∀ (s : State) (b : Byte),
    ((effAddr (.rel b) s).toNat : Int) = ((s.pc.toNat : Int) + 2 + b.toInt) % 65536 ∧ crossed (.rel b) s = false

/-! ## Loads, stores, transfers -/

/-- LDA, LDX, LDY load one byte into their register and set Z and N from it, and nothing else changes
(R140 to R143). -/
def Obligations.LoadsWriteRegisterAndZN : Prop :=
  ∀ (s : State) (b : Byte) (w : Word),
    Completes (.ldaImm b) 0xA9 2 2 s { s with a := b, flags := withZN s.flags b } ∧
    Completes (.ldxImm b) 0xA2 2 2 s { s with x := b, flags := withZN s.flags b } ∧
    Completes (.ldyImm b) 0xA0 2 2 s { s with y := b, flags := withZN s.flags b } ∧
    ReadsOperand
      [⟨.ldaZp b, 0xA5, .zp b, 2, 3, false⟩, ⟨.ldaZpX b, 0xB5, .zpx b, 2, 4, false⟩,
       ⟨.ldaAbs w, 0xAD, .abs w, 3, 4, false⟩, ⟨.ldaAbsX w, 0xBD, .absx w, 3, 4, true⟩,
       ⟨.ldaAbsY w, 0xB9, .absy w, 3, 4, true⟩, ⟨.ldaIndX b, 0xA1, .indx b, 2, 6, false⟩,
       ⟨.ldaIndY b, 0xB1, .indy b, 2, 5, true⟩]
      s (fun m => { s with a := m, flags := withZN s.flags m }) ∧
    ReadsOperand
      [⟨.ldxZp b, 0xA6, .zp b, 2, 3, false⟩, ⟨.ldxZpY b, 0xB6, .zpy b, 2, 4, false⟩,
       ⟨.ldxAbs w, 0xAE, .abs w, 3, 4, false⟩, ⟨.ldxAbsY w, 0xBE, .absy w, 3, 4, true⟩]
      s (fun m => { s with x := m, flags := withZN s.flags m }) ∧
    ReadsOperand
      [⟨.ldyZp b, 0xA4, .zp b, 2, 3, false⟩, ⟨.ldyZpX b, 0xB4, .zpx b, 2, 4, false⟩,
       ⟨.ldyAbs w, 0xAC, .abs w, 3, 4, false⟩, ⟨.ldyAbsX w, 0xBC, .absx w, 3, 4, true⟩]
      s (fun m => { s with y := m, flags := withZN s.flags m })

/-- STA, STX, STY, STZ store one byte at the address of their mode; no register, no flag and no other byte of memory
changes (R144 to R146, R272). -/
def Obligations.StoresWriteOneByte : Prop :=
  ∀ (s : State) (b : Byte) (w : Word), Memory.wf s.mem = true →
    StoresRegister
      [⟨.staZp b, 0x85, .zp b, 2, 3, false⟩, ⟨.staZpX b, 0x95, .zpx b, 2, 4, false⟩,
       ⟨.staAbs w, 0x8D, .abs w, 3, 4, false⟩, ⟨.staAbsX w, 0x9D, .absx w, 3, 5, false⟩,
       ⟨.staAbsY w, 0x99, .absy w, 3, 5, false⟩, ⟨.staIndX b, 0x81, .indx b, 2, 6, false⟩,
       ⟨.staIndY b, 0x91, .indy b, 2, 6, false⟩]
      s s.a ∧
    StoresRegister
      [⟨.stxZp b, 0x86, .zp b, 2, 3, false⟩, ⟨.stxZpY b, 0x96, .zpy b, 2, 4, false⟩,
       ⟨.stxAbs w, 0x8E, .abs w, 3, 4, false⟩]
      s s.x ∧
    StoresRegister
      [⟨.styZp b, 0x84, .zp b, 2, 3, false⟩, ⟨.styZpX b, 0x94, .zpx b, 2, 4, false⟩,
       ⟨.styAbs w, 0x8C, .abs w, 3, 4, false⟩]
      s s.y ∧
    StoresRegister
      [⟨.stzZp b, 0x64, .zp b, 2, 3, false⟩, ⟨.stzZpX b, 0x74, .zpx b, 2, 4, false⟩,
       ⟨.stzAbs w, 0x9C, .abs w, 3, 4, false⟩, ⟨.stzAbsX w, 0x9E, .absx w, 3, 5, false⟩]
      s 0x00

/-- The transfers copy one register and set Z and N from it; TXS sets no flag (R147 to R152). -/
def Obligations.TransfersCopyRegister : Prop :=
  ∀ (s : State),
    Completes .tax 0xAA 1 2 s { s with x := s.a, flags := withZN s.flags s.a } ∧
    Completes .tay 0xA8 1 2 s { s with y := s.a, flags := withZN s.flags s.a } ∧
    Completes .txa 0x8A 1 2 s { s with a := s.x, flags := withZN s.flags s.x } ∧
    Completes .tya 0x98 1 2 s { s with a := s.y, flags := withZN s.flags s.y } ∧
    Completes .tsx 0xBA 1 2 s { s with x := s.sp, flags := withZN s.flags s.sp } ∧
    Completes .txs 0x9A 1 2 s { s with sp := s.x }

/-! ## Arithmetic, logic, compare, bit test -/

/-- ADC: the result is the sum with the carry modulo 256, C its ninth bit, V the two's-complement overflow test on the
signs, Z and N from the result, whatever D holds; nothing else changes (R170, R171). -/
def Obligations.AdcAddsWithCarry : Prop :=
  ∀ (s : State) (b : Byte) (w : Word),
    let after := fun (m : Byte) =>
      let t := m.toNat + s.a.toNat + s.flags.c.toNat
      let r : Byte := BitVec.ofNat 8 (t % 256)
      { s with
        a := r
        flags := withZN { s.flags with
          c := decide (0x100 ≤ t)
          v := decide ((0x80 ≤ m.toNat ↔ 0x80 ≤ s.a.toNat) ∧ ¬ (0x80 ≤ r.toNat ↔ 0x80 ≤ s.a.toNat)) } r }
    Completes (.adcImm b) 0x69 2 2 s (after b) ∧
    ReadsOperand
      [⟨.adcZp b, 0x65, .zp b, 2, 3, false⟩, ⟨.adcZpX b, 0x75, .zpx b, 2, 4, false⟩,
       ⟨.adcAbs w, 0x6D, .abs w, 3, 4, false⟩, ⟨.adcAbsX w, 0x7D, .absx w, 3, 4, true⟩,
       ⟨.adcAbsY w, 0x79, .absy w, 3, 4, true⟩, ⟨.adcIndX b, 0x61, .indx b, 2, 6, false⟩,
       ⟨.adcIndY b, 0x71, .indy b, 2, 5, true⟩]
      s after

/-- SBC: the adder of ADC on the complement of the operand, its carry and overflow logic unchanged, whatever D holds;
nothing else changes (R170, R172). -/
def Obligations.SbcAddsTheComplement : Prop :=
  ∀ (s : State) (b : Byte) (w : Word),
    let after := fun (m : Byte) =>
      let n := m ^^^ 0xFF
      let t := n.toNat + s.a.toNat + s.flags.c.toNat
      let r : Byte := BitVec.ofNat 8 (t % 256)
      { s with
        a := r
        flags := withZN { s.flags with
          c := decide (0x100 ≤ t)
          v := decide ((0x80 ≤ n.toNat ↔ 0x80 ≤ s.a.toNat) ∧ ¬ (0x80 ≤ r.toNat ↔ 0x80 ≤ s.a.toNat)) } r }
    Completes (.sbcImm b) 0xE9 2 2 s (after b) ∧
    ReadsOperand
      [⟨.sbcZp b, 0xE5, .zp b, 2, 3, false⟩, ⟨.sbcZpX b, 0xF5, .zpx b, 2, 4, false⟩,
       ⟨.sbcAbs w, 0xED, .abs w, 3, 4, false⟩, ⟨.sbcAbsX w, 0xFD, .absx w, 3, 4, true⟩,
       ⟨.sbcAbsY w, 0xF9, .absy w, 3, 4, true⟩, ⟨.sbcIndX b, 0xE1, .indx b, 2, 6, false⟩,
       ⟨.sbcIndY b, 0xF1, .indy b, 2, 5, true⟩]
      s after

/-- What ADC and SBC compute, as integers: V is set iff the exact signed result with the carry or borrow lies outside
−128..127; ADC's C is the ninth bit of the sum, SBC's C is clear iff the unsigned difference borrows, and the result is
the exact one modulo 256. -/
def Obligations.AdcAndSbcAreExact : Prop :=
  ∀ (s t u : State) (m : Byte), exec (.adcImm m) s = .next t → exec (.sbcImm m) s = .next u →
    let carry := s.flags.c.toNat
    let sum : Int := s.a.toInt + m.toInt + carry
    let difference : Int := s.a.toInt - m.toInt - (1 - (carry : Int))
    (t.flags.v = true ↔ sum < -128 ∨ 127 < sum) ∧
    t.a.toNat + 256 * t.flags.c.toNat = s.a.toNat + m.toNat + carry ∧
    (u.flags.v = true ↔ difference < -128 ∨ 127 < difference) ∧
    (u.a.toNat : Int) - 256 * (1 - (u.flags.c.toNat : Int)) = s.a.toNat - m.toNat - (1 - (carry : Int))

/-- SBC of `v` and ADC of its one's complement leave the same registers, flags, memory and latches; the two may differ
only in their cycles (R180). -/
def Obligations.SbcIsAdcOfComplement : Prop :=
  ∀ (s : State) (v : Byte), ∃ t u, exec (.sbcImm v) s = .next t ∧
    exec (.adcImm (BitVec.ofNat 8 (255 - v.toNat))) s = .next u ∧ t = { u with cyc := t.cyc, bonus := t.bonus }

/-- AND, ORA, EOR: the bitwise operation on the accumulator, Z and N from the result, nothing else (R173 to R175). -/
def Obligations.LogicWritesAccumulatorAndZN : Prop :=
  ∀ (s : State) (b : Byte) (w : Word),
    let after := fun (r : Byte) => { s with a := r, flags := withZN s.flags r }
    Completes (.andImm b) 0x29 2 2 s (after (s.a &&& b)) ∧
    Completes (.oraImm b) 0x09 2 2 s (after (s.a ||| b)) ∧
    Completes (.eorImm b) 0x49 2 2 s (after (s.a ^^^ b)) ∧
    ReadsOperand
      [⟨.andZp b, 0x25, .zp b, 2, 3, false⟩, ⟨.andZpX b, 0x35, .zpx b, 2, 4, false⟩,
       ⟨.andAbs w, 0x2D, .abs w, 3, 4, false⟩, ⟨.andAbsX w, 0x3D, .absx w, 3, 4, true⟩,
       ⟨.andAbsY w, 0x39, .absy w, 3, 4, true⟩, ⟨.andIndX b, 0x21, .indx b, 2, 6, false⟩,
       ⟨.andIndY b, 0x31, .indy b, 2, 5, true⟩]
      s (fun m => after (s.a &&& m)) ∧
    ReadsOperand
      [⟨.oraZp b, 0x05, .zp b, 2, 3, false⟩, ⟨.oraZpX b, 0x15, .zpx b, 2, 4, false⟩,
       ⟨.oraAbs w, 0x0D, .abs w, 3, 4, false⟩, ⟨.oraAbsX w, 0x1D, .absx w, 3, 4, true⟩,
       ⟨.oraAbsY w, 0x19, .absy w, 3, 4, true⟩, ⟨.oraIndX b, 0x01, .indx b, 2, 6, false⟩,
       ⟨.oraIndY b, 0x11, .indy b, 2, 5, true⟩]
      s (fun m => after (s.a ||| m)) ∧
    ReadsOperand
      [⟨.eorZp b, 0x45, .zp b, 2, 3, false⟩, ⟨.eorZpX b, 0x55, .zpx b, 2, 4, false⟩,
       ⟨.eorAbs w, 0x4D, .abs w, 3, 4, false⟩, ⟨.eorAbsX w, 0x5D, .absx w, 3, 4, true⟩,
       ⟨.eorAbsY w, 0x59, .absy w, 3, 4, true⟩, ⟨.eorIndX b, 0x41, .indx b, 2, 6, false⟩,
       ⟨.eorIndY b, 0x51, .indy b, 2, 5, true⟩]
      s (fun m => after (s.a ^^^ m))

/-- CMP, CPX, CPY: Z iff equal, C iff the register is not below the operand, N bit 7 of the wrapped difference; the
register is unchanged and V is not written (R176 to R178). -/
def Obligations.ComparesSetFlagsOnly : Prop :=
  ∀ (s : State) (b : Byte) (w : Word),
    let after := fun (r m : Byte) =>
      { s with flags := { s.flags with
          z := decide (r.toNat = m.toNat)
          c := decide (m.toNat ≤ r.toNat)
          n := decide (0x80 ≤ (r.toNat + 256 - m.toNat) % 256) } }
    Completes (.cmpImm b) 0xC9 2 2 s (after s.a b) ∧
    Completes (.cpxImm b) 0xE0 2 2 s (after s.x b) ∧
    Completes (.cpyImm b) 0xC0 2 2 s (after s.y b) ∧
    ReadsOperand
      [⟨.cmpZp b, 0xC5, .zp b, 2, 3, false⟩, ⟨.cmpZpX b, 0xD5, .zpx b, 2, 4, false⟩,
       ⟨.cmpAbs w, 0xCD, .abs w, 3, 4, false⟩, ⟨.cmpAbsX w, 0xDD, .absx w, 3, 4, true⟩,
       ⟨.cmpAbsY w, 0xD9, .absy w, 3, 4, true⟩, ⟨.cmpIndX b, 0xC1, .indx b, 2, 6, false⟩,
       ⟨.cmpIndY b, 0xD1, .indy b, 2, 5, true⟩]
      s (after s.a) ∧
    ReadsOperand
      [⟨.cpxZp b, 0xE4, .zp b, 2, 3, false⟩, ⟨.cpxAbs w, 0xEC, .abs w, 3, 4, false⟩]
      s (after s.x) ∧
    ReadsOperand
      [⟨.cpyZp b, 0xC4, .zp b, 2, 3, false⟩, ⟨.cpyAbs w, 0xCC, .abs w, 3, 4, false⟩]
      s (after s.y)

/-- BIT: Z from `a & m`, N and V bits 7 and 6 of the operand; the immediate form writes Z only (R179, R276). -/
def Obligations.BitTestsSetFlagsOnly : Prop :=
  ∀ (s : State) (b : Byte) (w : Word),
    Completes (.bitImm b) 0x89 2 2 s { s with flags := { s.flags with z := decide (s.a &&& b = 0) } } ∧
    ReadsOperand
      [⟨.bitZp b, 0x24, .zp b, 2, 3, false⟩, ⟨.bitZpX b, 0x34, .zpx b, 2, 4, false⟩,
       ⟨.bitAbs w, 0x2C, .abs w, 3, 4, false⟩, ⟨.bitAbsX w, 0x3C, .absx w, 3, 4, true⟩]
      s (fun m => { s with flags := { s.flags with
          z := decide (s.a &&& m = 0)
          n := decide (0x80 ≤ m.toNat)
          v := decide (0x40 ≤ m.toNat % 128) } })

/-! ## Shifts, increments, decrements -/

/-- ASL, LSR, ROL, ROR, on the accumulator and on memory, as numbers: the bit shifted out is C, the rotates take the old
C in at the other end, Z and N are of the value written; no other register, flag or byte changes (R190 to R194). -/
def Obligations.ShiftsMoveOneBitThroughCarry : Prop :=
  ∀ (s : State) (b : Byte) (w : Word), Memory.wf s.mem = true →
    let asl := fun (m : Byte) => (BitVec.ofNat 8 (2 * m.toNat % 256) : Byte)
    let lsr := fun (m : Byte) => (BitVec.ofNat 8 (m.toNat / 2) : Byte)
    let rol := fun (m : Byte) => (BitVec.ofNat 8 ((2 * m.toNat + s.flags.c.toNat) % 256) : Byte)
    let ror := fun (m : Byte) => (BitVec.ofNat 8 (m.toNat / 2 + 128 * s.flags.c.toNat) : Byte)
    let left := fun (r : Byte → Byte) (m : Byte) => withZN { s.flags with c := decide (0x80 ≤ m.toNat) } (r m)
    let right := fun (r : Byte → Byte) (m : Byte) => withZN { s.flags with c := decide (m.toNat % 2 = 1) } (r m)
    Completes .aslA 0x0A 1 2 s { s with a := asl s.a, flags := left asl s.a } ∧
    Completes .lsrA 0x4A 1 2 s { s with a := lsr s.a, flags := right lsr s.a } ∧
    Completes .rolA 0x2A 1 2 s { s with a := rol s.a, flags := left rol s.a } ∧
    Completes .rorA 0x6A 1 2 s { s with a := ror s.a, flags := right ror s.a } ∧
    ModifiesMemory
      [⟨.aslZp b, 0x06, .zp b, 2, 5, false⟩, ⟨.aslZpX b, 0x16, .zpx b, 2, 6, false⟩,
       ⟨.aslAbs w, 0x0E, .abs w, 3, 6, false⟩, ⟨.aslAbsX w, 0x1E, .absx w, 3, 7, false⟩]
      s asl (left asl) ∧
    ModifiesMemory
      [⟨.lsrZp b, 0x46, .zp b, 2, 5, false⟩, ⟨.lsrZpX b, 0x56, .zpx b, 2, 6, false⟩,
       ⟨.lsrAbs w, 0x4E, .abs w, 3, 6, false⟩, ⟨.lsrAbsX w, 0x5E, .absx w, 3, 7, false⟩]
      s lsr (right lsr) ∧
    ModifiesMemory
      [⟨.rolZp b, 0x26, .zp b, 2, 5, false⟩, ⟨.rolZpX b, 0x36, .zpx b, 2, 6, false⟩,
       ⟨.rolAbs w, 0x2E, .abs w, 3, 6, false⟩, ⟨.rolAbsX w, 0x3E, .absx w, 3, 7, false⟩]
      s rol (left rol) ∧
    ModifiesMemory
      [⟨.rorZp b, 0x66, .zp b, 2, 5, false⟩, ⟨.rorZpX b, 0x76, .zpx b, 2, 6, false⟩,
       ⟨.rorAbs w, 0x6E, .abs w, 3, 6, false⟩, ⟨.rorAbsX w, 0x7E, .absx w, 3, 7, false⟩]
      s ror (right ror)

/-- INC and DEC, on memory and (optional group) on the accumulator, wrap modulo 256 and set Z and N from the result;
C and V and everything else are unchanged (R195, R196, R274, R275). -/
def Obligations.IncDecModifyAndSetZN : Prop :=
  ∀ (s : State) (b : Byte) (w : Word), Memory.wf s.mem = true →
    let inc := fun (m : Byte) => (BitVec.ofNat 8 ((m.toNat + 1) % 256) : Byte)
    let dec := fun (m : Byte) => (BitVec.ofNat 8 ((m.toNat + 255) % 256) : Byte)
    Completes .incA 0x1A 1 2 s { s with a := inc s.a, flags := withZN s.flags (inc s.a) } ∧
    Completes .decA 0x3A 1 2 s { s with a := dec s.a, flags := withZN s.flags (dec s.a) } ∧
    ModifiesMemory
      [⟨.incZp b, 0xE6, .zp b, 2, 5, false⟩, ⟨.incZpX b, 0xF6, .zpx b, 2, 6, false⟩,
       ⟨.incAbs w, 0xEE, .abs w, 3, 6, false⟩, ⟨.incAbsX w, 0xFE, .absx w, 3, 7, false⟩]
      s inc (fun m => withZN s.flags (inc m)) ∧
    ModifiesMemory
      [⟨.decZp b, 0xC6, .zp b, 2, 5, false⟩, ⟨.decZpX b, 0xD6, .zpx b, 2, 6, false⟩,
       ⟨.decAbs w, 0xCE, .abs w, 3, 6, false⟩, ⟨.decAbsX w, 0xDE, .absx w, 3, 7, false⟩]
      s dec (fun m => withZN s.flags (dec m))

/-- INX, INY, DEX, DEY wrap modulo 256 and set Z and N from the result; nothing else changes (R197 to R200). -/
def Obligations.IndexIncDecSetZN : Prop :=
  ∀ (s : State),
    let inc := fun (m : Byte) => (BitVec.ofNat 8 ((m.toNat + 1) % 256) : Byte)
    let dec := fun (m : Byte) => (BitVec.ofNat 8 ((m.toNat + 255) % 256) : Byte)
    Completes .inx 0xE8 1 2 s { s with x := inc s.x, flags := withZN s.flags (inc s.x) } ∧
    Completes .iny 0xC8 1 2 s { s with y := inc s.y, flags := withZN s.flags (inc s.y) } ∧
    Completes .dex 0xCA 1 2 s { s with x := dec s.x, flags := withZN s.flags (dec s.x) } ∧
    Completes .dey 0x88 1 2 s { s with y := dec s.y, flags := withZN s.flags (dec s.y) }

/-- TSB and TRB: Z from `a & m` before the write, the bits of `a` set or cleared in memory, nothing else changed
(R277, R278). -/
def Obligations.TestAndSetResetBits : Prop :=
  ∀ (s : State) (b : Byte) (w : Word), Memory.wf s.mem = true →
    let tested := fun (m : Byte) => { s.flags with z := decide (s.a &&& m = 0) }
    ModifiesMemory
      [⟨.tsbZp b, 0x04, .zp b, 2, 5, false⟩, ⟨.tsbAbs w, 0x0C, .abs w, 3, 6, false⟩]
      s (fun m => m ||| s.a) tested ∧
    ModifiesMemory
      [⟨.trbZp b, 0x14, .zp b, 2, 5, false⟩, ⟨.trbAbs w, 0x1C, .abs w, 3, 6, false⟩]
      s (fun m => m &&& (s.a ^^^ 0xFF)) tested

/-! ## Branches, jumps, calls, returns -/

/-- The branches: taken iff the flag has the value their rule names (BRA always), to `pc0 + 2` plus the signed operand;
not taken, `pc` is `pc0 + 2`. A taken branch adds 1 to the bonus, 2 if `pc0 + 2` and the target lie in different pages,
a branch not taken nothing; no register, flag or byte of memory changes (R128, R210 to R218, R271). -/
def Obligations.BranchesTestTheirFlag : Prop :=
  ∀ (s : State) (b : Byte), ∀ f ∈
      ([(.bpl b, 0x10, !s.flags.n), (.bmi b, 0x30, s.flags.n), (.bvc b, 0x50, !s.flags.v), (.bvs b, 0x70, s.flags.v),
        (.bcc b, 0x90, !s.flags.c), (.bcs b, 0xB0, s.flags.c), (.bne b, 0xD0, !s.flags.z), (.beq b, 0xF0, s.flags.z),
        (.bra b, 0x80, true)] : List (Instr × Byte × Bool)),
    let next := (s.pc.toNat + 2) % 65536
    let target := (((s.pc.toNat : Int) + 2 + b.toInt) % 65536).toNat
    let extra := if f.2.2 then (if next / 256 = target / 256 then 1 else 2) else 0
    Encoded f.1 f.2.1 2 ∧
      exec f.1 s = .next (finished f.2.1 (BitVec.ofNat 16 (if f.2.2 then target else next)) extra s s)

/-- The three forms of JMP write `pc` with the address their mode computes and change nothing else
(R219 to R221). -/
def Obligations.JumpsWritePcOnly : Prop :=
  ∀ (s : State) (w : Word),
    Jumps (.jmpAbs w) 0x4C 3 w s s ∧ Jumps (.jmpInd w) 0x6C 5 (effAddr (.ind w) s) s s ∧
    Jumps (.jmpIndAbsX w) 0x7C 6 (effAddr (.indabsx w) s) s s

/-- JSR stores `pc0 + 2`, high byte at `0x0100 + sp` and low byte in the cell below (wrapped in the stack page), lowers
`sp` by 2 and jumps to its operand; no other byte, register or flag changes (R222, R56). -/
def Obligations.JsrPushesReturnAddress : Prop :=
  ∀ (s : State) (w : Word), Memory.wf s.mem = true →
    let r := (s.pc.toNat + 2) % 65536
    Encoded (.jsr w) 0x20 6 ∧ ∃ t, exec (.jsr w) s = .next t ∧
      t = { finished 0x20 w 0 s { s with sp := BitVec.ofNat 8 (s.sp.toNat + 254) } with mem := t.mem } ∧
      ∀ k, memRead t k =
        if k = stackCell s.sp.toNat then BitVec.ofNat 8 (r / 256)
        else if k = stackCell (s.sp.toNat + 255) then BitVec.ofNat 8 r
        else memRead s k

/-- RTS pops low, then high, and continues one past the popped address; RTI pops the status, then low, then high, with
no addition; only `sp`, `pc` and (RTI) the flags change (R223, R224). -/
def Obligations.ReturnsPopPc : Prop :=
  ∀ (s : State),
    let pop := fun (k : Nat) => memRead s (stackCell (s.sp.toNat + k))
    Jumps .rts 0x60 6 (BitVec.ofNat 16 (256 * (pop 2).toNat + (pop 1).toNat + 1)) s
      { s with sp := BitVec.ofNat 8 (s.sp.toNat + 2) } ∧
    Jumps .rti 0x40 6 (BitVec.ofNat 16 (256 * (pop 3).toNat + (pop 2).toNat)) s
      { s with sp := BitVec.ofNat 8 (s.sp.toNat + 3), flags := unpack (pop 1) }

/-- JSR, then RTS at the target with `sp` and the stack untouched, continues at `pc0 + 3` with `sp` as before, for every
`sp` (R225). -/
def Obligations.JsrThenRtsReturnsBehindTheCall : Prop :=
  ∀ (s : State) (w : Word), Memory.wf s.mem = true →
    ∃ t u, exec (.jsr w) s = .next t ∧ exec .rts t = .next u ∧
      u.pc.toNat = (s.pc.toNat + 3) % 65536 ∧ u.sp = s.sp ∧
      u = { s with pc := u.pc, cyc := u.cyc, bonus := u.bonus, mem := t.mem }

/-! ## Stack, flags, NOP, BRK -/

/-- The pushes store one byte at `0x0100 + sp` and lower `sp` by 1 modulo 256; PHP stores the packed status, with bit 4
set when `PHP_FORCES_B`; no other byte, register or flag changes (R240, R242, R244, R246, R248). -/
def Obligations.PushesStoreOnTheStack : Prop :=
  ∀ (s : State), Memory.wf s.mem = true → ∀ f ∈
      ([(.pha, 0x48, s.a), (.phx, 0xDA, s.x), (.phy, 0x5A, s.y),
        (.php, 0x08, if s.cfg.phpForcesB then pack { s.flags with b := true } else pack s.flags)] :
        List (Instr × Byte × Byte)),
    CompletesStoring f.1 f.2.1 1 3 0 (stackCell s.sp.toNat) f.2.2 s
      { s with sp := BitVec.ofNat 8 (s.sp.toNat + 255) }

/-- The pulls raise `sp` by 1 modulo 256 and read the cell it then names: into a register with Z and N, or into all
seven flags; memory and everything else is unchanged (R241, R243, R245, R247, R249). -/
def Obligations.PullsReadTheStack : Prop :=
  ∀ (s : State),
    let v := memRead s (stackCell (s.sp.toNat + 1))
    let up : Byte := BitVec.ofNat 8 (s.sp.toNat + 1)
    Completes .pla 0x68 1 4 s { s with sp := up, a := v, flags := withZN s.flags v } ∧
    Completes .plx 0xFA 1 4 s { s with sp := up, x := v, flags := withZN s.flags v } ∧
    Completes .ply 0x7A 1 4 s { s with sp := up, y := v, flags := withZN s.flags v } ∧
    Completes .plp 0x28 1 4 s { s with sp := up, flags := unpack v }

/-- A pull takes what the matching push left, and `sp` returns to its value, also through the wrap; PHP then PLP
restores the flags (with `PHP_FORCES_B` false) (R245, R259). -/
def Obligations.PullTakesWhatPushLeft : Prop :=
  ∀ (s : State), Memory.wf s.mem = true →
    (∃ t u, exec .pha s = .next t ∧ exec .pla t = .next u ∧ u.a = s.a ∧ u.sp = s.sp) ∧
    (∃ t u, exec .phx s = .next t ∧ exec .ply t = .next u ∧ u.y = s.x ∧ u.sp = s.sp) ∧
    (s.cfg.phpForcesB = false →
      ∃ t u, exec .php s = .next t ∧ exec .plp t = .next u ∧ u.flags = s.flags ∧ u.sp = s.sp)

/-- Each flag instruction writes its one flag and nothing else (R250 to R256). -/
def Obligations.FlagInstructionsWriteOneFlag : Prop :=
  ∀ (s : State),
    Completes .clc 0x18 1 2 s { s with flags := { s.flags with c := false } } ∧
    Completes .sec 0x38 1 2 s { s with flags := { s.flags with c := true } } ∧
    Completes .cli 0x58 1 2 s { s with flags := { s.flags with i := false } } ∧
    Completes .sei 0x78 1 2 s { s with flags := { s.flags with i := true } } ∧
    Completes .cld 0xD8 1 2 s { s with flags := { s.flags with d := false } } ∧
    Completes .sed 0xF8 1 2 s { s with flags := { s.flags with d := true } } ∧
    Completes .clv 0xB8 1 2 s { s with flags := { s.flags with v := false } }

/-- NOP changes nothing; BRK sets the break indicator and nothing else: no push, no flag, `pc = pc0 + 1`
(R257, R258, R303). -/
def Obligations.NopAndBrk : Prop :=
  ∀ (s : State), Completes .nop 0xEA 1 2 s s ∧ Completes .brk 0x00 1 7 s { s with brkHalt := true }

/-! ## Rules of the whole machine -/

/-- Which instructions can change each register (R21 to R24). -/
def Obligations.RegistersHaveTheirWriters : Prop :=
  ∀ (i : Instr) (s t : State), exec i s = .next t →
    (t.a ≠ s.a → i.mnemonic ∈ [.lda, .adc, .sbc, .and, .ora, .eor, .pla, .txa, .tya] ∨
      (i.mode = .acc ∧ i.mnemonic ∈ [.asl, .lsr, .rol, .ror, .inc, .dec])) ∧
    (t.x ≠ s.x → i.mnemonic ∈ [.ldx, .tax, .tsx, .inx, .dex, .plx]) ∧
    (t.y ≠ s.y → i.mnemonic ∈ [.ldy, .tay, .iny, .dey, .ply]) ∧
    (t.sp ≠ s.sp → i.mnemonic ∈ [.pha, .pla, .php, .plp, .phx, .plx, .phy, .ply, .jsr, .rts, .rti, .txs])

/-- Which instructions can change each flag (the table of R26; R32 to R36): the list of Z and that of N differ by TSB and
TRB (R277, R278) and by the immediate form of BIT (R276), which write Z and leave N. -/
def Obligations.FlagsHaveTheirWriters : Prop :=
  ∀ (i : Instr) (s t : State), exec i s = .next t →
    (t.flags.c ≠ s.flags.c →
      i.mnemonic ∈ [.adc, .sbc, .cmp, .cpx, .cpy, .asl, .lsr, .rol, .ror, .clc, .sec, .plp, .rti]) ∧
    (t.flags.i ≠ s.flags.i → i.mnemonic ∈ [.cli, .sei, .plp, .rti]) ∧
    (t.flags.d ≠ s.flags.d → i.mnemonic ∈ [.cld, .sed, .plp, .rti]) ∧
    (t.flags.b ≠ s.flags.b → i.mnemonic ∈ [.plp, .rti]) ∧
    (t.flags.v ≠ s.flags.v →
      i.mnemonic ∈ [.adc, .sbc, .clv, .plp, .rti] ∨ (i.mnemonic = .bit ∧ i.mode ≠ .imm)) ∧
    (t.flags.z ≠ s.flags.z →
      i.mnemonic ∈ [.lda, .ldx, .ldy, .tax, .tay, .txa, .tya, .tsx, .pla, .plx, .ply, .adc, .sbc, .and, .ora, .eor,
        .cmp, .cpx, .cpy, .bit, .asl, .lsr, .rol, .ror, .inc, .dec, .inx, .iny, .dex, .dey, .tsb, .trb, .plp, .rti]) ∧
    (t.flags.n ≠ s.flags.n →
      i.mnemonic ∈ [.lda, .ldx, .ldy, .tax, .tay, .txa, .tya, .tsx, .pla, .plx, .ply, .adc, .sbc, .and, .ora, .eor,
        .cmp, .cpx, .cpy, .asl, .lsr, .rol, .ror, .inc, .dec, .inx, .iny, .dex, .dey, .plp, .rti] ∨
      (i.mnemonic = .bit ∧ i.mode ≠ .imm))

/-- Only stores, read-modify-writes on memory, pushes and JSR change memory, and the last two only the stack page
(R50, R240). -/
def Obligations.MemoryHasItsWriters : Prop :=
  ∀ (i : Instr) (s t : State), exec i s = .next t → t.mem ≠ s.mem →
    (i.mnemonic ∈ [.sta, .stx, .sty, .stz] ∨
      (i.mode ≠ .acc ∧ i.mnemonic ∈ [.asl, .lsr, .rol, .ror, .inc, .dec, .tsb, .trb])) ∨
    (i.mnemonic ∈ [.pha, .php, .phx, .phy, .jsr] ∧
      (Memory.wf s.mem = true → ∀ k, memRead t k ≠ memRead s k → 0x100 ≤ k.toNat ∧ k.toNat ≤ 0x1FF))

/-- D and I have no effect on execution: with another value of either, every instruction but PHP leaves the same state,
but for that flag, which it leaves at its own value or, if it writes the flag, writes the same way (R32, R33, R170). -/
def Obligations.DecimalAndInterruptFlagsAreInert : Prop :=
  ∀ (i : Instr) (s t : State), i.mnemonic ≠ .php → exec i s = .next t → ∀ (v : Bool),
    exec i { s with flags := { s.flags with d := v } } =
      .next { t with flags := { t.flags with
        d := if i.mnemonic ∈ [.cld, .sed, .plp, .rti] then t.flags.d else v } } ∧
    exec i { s with flags := { s.flags with i := v } } =
      .next { t with flags := { t.flags with
        i := if i.mnemonic ∈ [.cli, .sei, .plp, .rti] then t.flags.i else v } }

/-! ## Timing -/

/-- No register, flag, latch or byte of memory depends on `cyc`, `bonus`, `BASE_CYCLES`, `PAGE_CROSS_SET` or
`TICK_BIAS`: from states that agree on all else, every instruction leaves states that agree on all else
(R126, R131). -/
def Obligations.ResultsDoNotDependOnTiming : Prop :=
  ∀ (i : Instr) (s s' : State), AgreeButTiming s s' →
    ∃ t t', exec i s = .next t ∧ exec i s' = .next t' ∧ AgreeButTiming t t'

/-- Every instruction re-arms the countdown with its base count and the bonus, less `TICK_BIAS` (R126). -/
def Obligations.InstructionRearmsCountdown : Prop :=
  ∀ (i : Instr) (s : State), ∃ t, exec i s = .next t ∧
    t.cyc = baseCycles s.cfg (opcodeOf i) + t.bonus - s.cfg.tickBias.val

/-- Under the default tables a page crossing costs one cycle more in exactly the forms R351 lists; no other instruction
but a branch ever adds to the bonus (R127, R128, R351). -/
def Obligations.CrossingPaysForListedForms : Prop :=
  ∀ (s : State) (b : Byte) (w : Word), s.cfg.pageCross = [] →
    (∀ f ∈ ([(.oraAbsX w, .absx w), (.oraAbsY w, .absy w), (.oraIndY b, .indy b), (.andAbsX w, .absx w),
        (.andAbsY w, .absy w), (.andIndY b, .indy b), (.eorAbsX w, .absx w), (.eorAbsY w, .absy w),
        (.eorIndY b, .indy b), (.adcAbsX w, .absx w), (.adcAbsY w, .absy w), (.adcIndY b, .indy b),
        (.ldaAbsX w, .absx w), (.ldaAbsY w, .absy w), (.ldaIndY b, .indy b), (.cmpAbsX w, .absx w),
        (.cmpAbsY w, .absy w), (.cmpIndY b, .indy b), (.sbcAbsX w, .absx w), (.sbcAbsY w, .absy w),
        (.sbcIndY b, .indy b), (.ldxAbsY w, .absy w), (.ldyAbsX w, .absx w), (.bitAbsX w, .absx w)] :
        List (Instr × AddrMode)),
      ∃ t, exec f.1 s = .next t ∧ t.bonus = s.bonus + if crossed f.2 s then 1 else 0) ∧
    ∀ (i : Instr) (t : State), exec i s = .next t → t.bonus ≠ s.bonus →
      i.mode = .rel ∨ (i.mode ∈ [.absx, .absy, .indy] ∧
        i.mnemonic ∈ [.ora, .and, .eor, .adc, .lda, .cmp, .sbc, .ldx, .ldy, .bit])

/-- The default base counts are regular by mode (the last paragraph of R350). -/
def Obligations.BaseCyclesByMode : Prop :=
  ∀ (i : Instr),
    let rmw := decide (i.mnemonic ∈ [Mnemonic.asl, .lsr, .rol, .ror, .inc, .dec, .tsb, .trb])
    let store := decide (i.mnemonic ∈ [Mnemonic.sta, .stx, .sty, .stz])
    baseCycles {} (opcodeOf i) =
      match i.mode with
      | .imp =>
        if i.mnemonic ∈ [Mnemonic.pha, .php, .phx, .phy] then 3
        else if i.mnemonic ∈ [Mnemonic.pla, .plp, .plx, .ply] then 4
        else if i.mnemonic ∈ [Mnemonic.rts, .rti] then 6
        else if i.mnemonic = .brk then 7 else 2
      | .acc => 2
      | .imm => 2
      | .zp => if rmw then 5 else 3
      | .zpx => if rmw then 6 else 4
      | .zpy => 4
      | .abs => if rmw then 6 else if i.mnemonic = .jmp then 3 else if i.mnemonic = .jsr then 6 else 4
      | .absx => if rmw then 7 else if store then 5 else 4
      | .absy => if store then 5 else 4
      | .indx => 6
      | .indy => if store then 6 else 5
      | .ind => 5
      | .indabsx => 6
      | .rel => 2
end

