-- ==== Sys2Proof/Laws/Bits.lean ====
section
/-! SUPPORT. What the bit helpers are as numbers (R7, R8 of `00_scope.md`). -/

namespace Sys2Proof.Machine

@[simp] theorem toNat_cat (h l : Byte) : (cat h l).toNat = h.toNat * 256 + l.toNat := by
  have := h.isLt
  have := l.isLt
  simp only [cat, BitVec.toNat_ofNat]
  omega

@[simp] theorem toNat_lo (w : Word) : (lo w).toNat = w.toNat % 256 := by simp [lo]

@[simp] theorem toNat_hi (w : Word) : (hi w).toNat = w.toNat / 256 := by
  have := w.isLt
  simp only [hi, BitVec.toNat_ofNat]
  omega

@[simp] theorem toNat_zext16 (b : Byte) : (zext16 b).toNat = b.toNat := by
  have := b.isLt
  simp only [zext16, BitVec.truncate_eq_setWidth, BitVec.toNat_setWidth]
  omega

theorem hi_cat (h l : Byte) : hi (cat h l) = h := by
  apply BitVec.eq_of_toNat_eq
  have := l.isLt
  simp only [toNat_hi, toNat_cat]
  omega

theorem lo_cat (h l : Byte) : lo (cat h l) = l := by
  apply BitVec.eq_of_toNat_eq
  have := l.isLt
  simp only [toNat_lo, toNat_cat]
  omega

/-- `sext_16` is the two's-complement sign extension (R8). -/
theorem sext16_eq_signExtend (b : Byte) : sext16 b = b.signExtend 16 := by
  revert b
  decide

theorem hi_eq_iff (v w : Word) : hi v = hi w ↔ v.toNat / 256 = w.toNat / 256 := by
  rw [← BitVec.toNat_inj, toNat_hi, toNat_hi]

end Sys2Proof.Machine
end

