-- ==== Sys2Proof/Laws/State.lean ====
section
/-! SUPPORT. One lemma for every field and every named update of State: what the update leaves there, true by
unfolding once, so that no later proof unfolds a record update. -/

namespace Sys2Proof.Machine

/-! ## `setPc` -/

@[simp] theorem setPc_pc (v : Word) (s : State) : (setPc v s).pc = v := rfl
@[simp] theorem setPc_sp (v : Word) (s : State) : (setPc v s).sp = s.sp := rfl
@[simp] theorem setPc_a (v : Word) (s : State) : (setPc v s).a = s.a := rfl
@[simp] theorem setPc_x (v : Word) (s : State) : (setPc v s).x = s.x := rfl
@[simp] theorem setPc_y (v : Word) (s : State) : (setPc v s).y = s.y := rfl
@[simp] theorem setPc_flags (v : Word) (s : State) : (setPc v s).flags = s.flags := rfl
@[simp] theorem setPc_cyc (v : Word) (s : State) : (setPc v s).cyc = s.cyc := rfl
@[simp] theorem setPc_bonus (v : Word) (s : State) : (setPc v s).bonus = s.bonus := rfl
@[simp] theorem setPc_brkHalt (v : Word) (s : State) : (setPc v s).brkHalt = s.brkHalt := rfl
@[simp] theorem setPc_illegal (v : Word) (s : State) : (setPc v s).illegal = s.illegal := rfl
@[simp] theorem setPc_mem (v : Word) (s : State) : (setPc v s).mem = s.mem := rfl
@[simp] theorem setPc_pcSeeded (v : Word) (s : State) : (setPc v s).pcSeeded = s.pcSeeded := rfl
@[simp] theorem setPc_cfg (v : Word) (s : State) : (setPc v s).cfg = s.cfg := rfl

/-! ## `setSp` -/

@[simp] theorem setSp_pc (v : Byte) (s : State) : (setSp v s).pc = s.pc := rfl
@[simp] theorem setSp_sp (v : Byte) (s : State) : (setSp v s).sp = v := rfl
@[simp] theorem setSp_a (v : Byte) (s : State) : (setSp v s).a = s.a := rfl
@[simp] theorem setSp_x (v : Byte) (s : State) : (setSp v s).x = s.x := rfl
@[simp] theorem setSp_y (v : Byte) (s : State) : (setSp v s).y = s.y := rfl
@[simp] theorem setSp_flags (v : Byte) (s : State) : (setSp v s).flags = s.flags := rfl
@[simp] theorem setSp_cyc (v : Byte) (s : State) : (setSp v s).cyc = s.cyc := rfl
@[simp] theorem setSp_bonus (v : Byte) (s : State) : (setSp v s).bonus = s.bonus := rfl
@[simp] theorem setSp_brkHalt (v : Byte) (s : State) : (setSp v s).brkHalt = s.brkHalt := rfl
@[simp] theorem setSp_illegal (v : Byte) (s : State) : (setSp v s).illegal = s.illegal := rfl
@[simp] theorem setSp_mem (v : Byte) (s : State) : (setSp v s).mem = s.mem := rfl
@[simp] theorem setSp_pcSeeded (v : Byte) (s : State) : (setSp v s).pcSeeded = s.pcSeeded := rfl
@[simp] theorem setSp_cfg (v : Byte) (s : State) : (setSp v s).cfg = s.cfg := rfl

/-! ## `setA` -/

@[simp] theorem setA_pc (v : Byte) (s : State) : (setA v s).pc = s.pc := rfl
@[simp] theorem setA_sp (v : Byte) (s : State) : (setA v s).sp = s.sp := rfl
@[simp] theorem setA_a (v : Byte) (s : State) : (setA v s).a = v := rfl
@[simp] theorem setA_x (v : Byte) (s : State) : (setA v s).x = s.x := rfl
@[simp] theorem setA_y (v : Byte) (s : State) : (setA v s).y = s.y := rfl
@[simp] theorem setA_flags (v : Byte) (s : State) : (setA v s).flags = s.flags := rfl
@[simp] theorem setA_cyc (v : Byte) (s : State) : (setA v s).cyc = s.cyc := rfl
@[simp] theorem setA_bonus (v : Byte) (s : State) : (setA v s).bonus = s.bonus := rfl
@[simp] theorem setA_brkHalt (v : Byte) (s : State) : (setA v s).brkHalt = s.brkHalt := rfl
@[simp] theorem setA_illegal (v : Byte) (s : State) : (setA v s).illegal = s.illegal := rfl
@[simp] theorem setA_mem (v : Byte) (s : State) : (setA v s).mem = s.mem := rfl
@[simp] theorem setA_pcSeeded (v : Byte) (s : State) : (setA v s).pcSeeded = s.pcSeeded := rfl
@[simp] theorem setA_cfg (v : Byte) (s : State) : (setA v s).cfg = s.cfg := rfl

/-! ## `setX` -/

@[simp] theorem setX_pc (v : Byte) (s : State) : (setX v s).pc = s.pc := rfl
@[simp] theorem setX_sp (v : Byte) (s : State) : (setX v s).sp = s.sp := rfl
@[simp] theorem setX_a (v : Byte) (s : State) : (setX v s).a = s.a := rfl
@[simp] theorem setX_x (v : Byte) (s : State) : (setX v s).x = v := rfl
@[simp] theorem setX_y (v : Byte) (s : State) : (setX v s).y = s.y := rfl
@[simp] theorem setX_flags (v : Byte) (s : State) : (setX v s).flags = s.flags := rfl
@[simp] theorem setX_cyc (v : Byte) (s : State) : (setX v s).cyc = s.cyc := rfl
@[simp] theorem setX_bonus (v : Byte) (s : State) : (setX v s).bonus = s.bonus := rfl
@[simp] theorem setX_brkHalt (v : Byte) (s : State) : (setX v s).brkHalt = s.brkHalt := rfl
@[simp] theorem setX_illegal (v : Byte) (s : State) : (setX v s).illegal = s.illegal := rfl
@[simp] theorem setX_mem (v : Byte) (s : State) : (setX v s).mem = s.mem := rfl
@[simp] theorem setX_pcSeeded (v : Byte) (s : State) : (setX v s).pcSeeded = s.pcSeeded := rfl
@[simp] theorem setX_cfg (v : Byte) (s : State) : (setX v s).cfg = s.cfg := rfl

/-! ## `setY` -/

@[simp] theorem setY_pc (v : Byte) (s : State) : (setY v s).pc = s.pc := rfl
@[simp] theorem setY_sp (v : Byte) (s : State) : (setY v s).sp = s.sp := rfl
@[simp] theorem setY_a (v : Byte) (s : State) : (setY v s).a = s.a := rfl
@[simp] theorem setY_x (v : Byte) (s : State) : (setY v s).x = s.x := rfl
@[simp] theorem setY_y (v : Byte) (s : State) : (setY v s).y = v := rfl
@[simp] theorem setY_flags (v : Byte) (s : State) : (setY v s).flags = s.flags := rfl
@[simp] theorem setY_cyc (v : Byte) (s : State) : (setY v s).cyc = s.cyc := rfl
@[simp] theorem setY_bonus (v : Byte) (s : State) : (setY v s).bonus = s.bonus := rfl
@[simp] theorem setY_brkHalt (v : Byte) (s : State) : (setY v s).brkHalt = s.brkHalt := rfl
@[simp] theorem setY_illegal (v : Byte) (s : State) : (setY v s).illegal = s.illegal := rfl
@[simp] theorem setY_mem (v : Byte) (s : State) : (setY v s).mem = s.mem := rfl
@[simp] theorem setY_pcSeeded (v : Byte) (s : State) : (setY v s).pcSeeded = s.pcSeeded := rfl
@[simp] theorem setY_cfg (v : Byte) (s : State) : (setY v s).cfg = s.cfg := rfl

/-! ## `setFlags` -/

@[simp] theorem setFlags_pc (f : Flags) (s : State) : (setFlags f s).pc = s.pc := rfl
@[simp] theorem setFlags_sp (f : Flags) (s : State) : (setFlags f s).sp = s.sp := rfl
@[simp] theorem setFlags_a (f : Flags) (s : State) : (setFlags f s).a = s.a := rfl
@[simp] theorem setFlags_x (f : Flags) (s : State) : (setFlags f s).x = s.x := rfl
@[simp] theorem setFlags_y (f : Flags) (s : State) : (setFlags f s).y = s.y := rfl
@[simp] theorem setFlags_flags (f : Flags) (s : State) : (setFlags f s).flags = f := rfl
@[simp] theorem setFlags_cyc (f : Flags) (s : State) : (setFlags f s).cyc = s.cyc := rfl
@[simp] theorem setFlags_bonus (f : Flags) (s : State) : (setFlags f s).bonus = s.bonus := rfl
@[simp] theorem setFlags_brkHalt (f : Flags) (s : State) : (setFlags f s).brkHalt = s.brkHalt := rfl
@[simp] theorem setFlags_illegal (f : Flags) (s : State) : (setFlags f s).illegal = s.illegal := rfl
@[simp] theorem setFlags_mem (f : Flags) (s : State) : (setFlags f s).mem = s.mem := rfl
@[simp] theorem setFlags_pcSeeded (f : Flags) (s : State) : (setFlags f s).pcSeeded = s.pcSeeded := rfl
@[simp] theorem setFlags_cfg (f : Flags) (s : State) : (setFlags f s).cfg = s.cfg := rfl

/-! ## `setC` -/

@[simp] theorem setC_pc (v : Bool) (s : State) : (setC v s).pc = s.pc := rfl
@[simp] theorem setC_sp (v : Bool) (s : State) : (setC v s).sp = s.sp := rfl
@[simp] theorem setC_a (v : Bool) (s : State) : (setC v s).a = s.a := rfl
@[simp] theorem setC_x (v : Bool) (s : State) : (setC v s).x = s.x := rfl
@[simp] theorem setC_y (v : Bool) (s : State) : (setC v s).y = s.y := rfl
@[simp] theorem setC_flags (v : Bool) (s : State) : (setC v s).flags = { s.flags with c := v } := rfl
@[simp] theorem setC_cyc (v : Bool) (s : State) : (setC v s).cyc = s.cyc := rfl
@[simp] theorem setC_bonus (v : Bool) (s : State) : (setC v s).bonus = s.bonus := rfl
@[simp] theorem setC_brkHalt (v : Bool) (s : State) : (setC v s).brkHalt = s.brkHalt := rfl
@[simp] theorem setC_illegal (v : Bool) (s : State) : (setC v s).illegal = s.illegal := rfl
@[simp] theorem setC_mem (v : Bool) (s : State) : (setC v s).mem = s.mem := rfl
@[simp] theorem setC_pcSeeded (v : Bool) (s : State) : (setC v s).pcSeeded = s.pcSeeded := rfl
@[simp] theorem setC_cfg (v : Bool) (s : State) : (setC v s).cfg = s.cfg := rfl

/-! ## `setZ` -/

@[simp] theorem setZ_pc (v : Bool) (s : State) : (setZ v s).pc = s.pc := rfl
@[simp] theorem setZ_sp (v : Bool) (s : State) : (setZ v s).sp = s.sp := rfl
@[simp] theorem setZ_a (v : Bool) (s : State) : (setZ v s).a = s.a := rfl
@[simp] theorem setZ_x (v : Bool) (s : State) : (setZ v s).x = s.x := rfl
@[simp] theorem setZ_y (v : Bool) (s : State) : (setZ v s).y = s.y := rfl
@[simp] theorem setZ_flags (v : Bool) (s : State) : (setZ v s).flags = { s.flags with z := v } := rfl
@[simp] theorem setZ_cyc (v : Bool) (s : State) : (setZ v s).cyc = s.cyc := rfl
@[simp] theorem setZ_bonus (v : Bool) (s : State) : (setZ v s).bonus = s.bonus := rfl
@[simp] theorem setZ_brkHalt (v : Bool) (s : State) : (setZ v s).brkHalt = s.brkHalt := rfl
@[simp] theorem setZ_illegal (v : Bool) (s : State) : (setZ v s).illegal = s.illegal := rfl
@[simp] theorem setZ_mem (v : Bool) (s : State) : (setZ v s).mem = s.mem := rfl
@[simp] theorem setZ_pcSeeded (v : Bool) (s : State) : (setZ v s).pcSeeded = s.pcSeeded := rfl
@[simp] theorem setZ_cfg (v : Bool) (s : State) : (setZ v s).cfg = s.cfg := rfl

/-! ## `setI` -/

@[simp] theorem setI_pc (v : Bool) (s : State) : (setI v s).pc = s.pc := rfl
@[simp] theorem setI_sp (v : Bool) (s : State) : (setI v s).sp = s.sp := rfl
@[simp] theorem setI_a (v : Bool) (s : State) : (setI v s).a = s.a := rfl
@[simp] theorem setI_x (v : Bool) (s : State) : (setI v s).x = s.x := rfl
@[simp] theorem setI_y (v : Bool) (s : State) : (setI v s).y = s.y := rfl
@[simp] theorem setI_flags (v : Bool) (s : State) : (setI v s).flags = { s.flags with i := v } := rfl
@[simp] theorem setI_cyc (v : Bool) (s : State) : (setI v s).cyc = s.cyc := rfl
@[simp] theorem setI_bonus (v : Bool) (s : State) : (setI v s).bonus = s.bonus := rfl
@[simp] theorem setI_brkHalt (v : Bool) (s : State) : (setI v s).brkHalt = s.brkHalt := rfl
@[simp] theorem setI_illegal (v : Bool) (s : State) : (setI v s).illegal = s.illegal := rfl
@[simp] theorem setI_mem (v : Bool) (s : State) : (setI v s).mem = s.mem := rfl
@[simp] theorem setI_pcSeeded (v : Bool) (s : State) : (setI v s).pcSeeded = s.pcSeeded := rfl
@[simp] theorem setI_cfg (v : Bool) (s : State) : (setI v s).cfg = s.cfg := rfl

/-! ## `setD` -/

@[simp] theorem setD_pc (v : Bool) (s : State) : (setD v s).pc = s.pc := rfl
@[simp] theorem setD_sp (v : Bool) (s : State) : (setD v s).sp = s.sp := rfl
@[simp] theorem setD_a (v : Bool) (s : State) : (setD v s).a = s.a := rfl
@[simp] theorem setD_x (v : Bool) (s : State) : (setD v s).x = s.x := rfl
@[simp] theorem setD_y (v : Bool) (s : State) : (setD v s).y = s.y := rfl
@[simp] theorem setD_flags (v : Bool) (s : State) : (setD v s).flags = { s.flags with d := v } := rfl
@[simp] theorem setD_cyc (v : Bool) (s : State) : (setD v s).cyc = s.cyc := rfl
@[simp] theorem setD_bonus (v : Bool) (s : State) : (setD v s).bonus = s.bonus := rfl
@[simp] theorem setD_brkHalt (v : Bool) (s : State) : (setD v s).brkHalt = s.brkHalt := rfl
@[simp] theorem setD_illegal (v : Bool) (s : State) : (setD v s).illegal = s.illegal := rfl
@[simp] theorem setD_mem (v : Bool) (s : State) : (setD v s).mem = s.mem := rfl
@[simp] theorem setD_pcSeeded (v : Bool) (s : State) : (setD v s).pcSeeded = s.pcSeeded := rfl
@[simp] theorem setD_cfg (v : Bool) (s : State) : (setD v s).cfg = s.cfg := rfl

/-! ## `setV` -/

@[simp] theorem setV_pc (v : Bool) (s : State) : (setV v s).pc = s.pc := rfl
@[simp] theorem setV_sp (v : Bool) (s : State) : (setV v s).sp = s.sp := rfl
@[simp] theorem setV_a (v : Bool) (s : State) : (setV v s).a = s.a := rfl
@[simp] theorem setV_x (v : Bool) (s : State) : (setV v s).x = s.x := rfl
@[simp] theorem setV_y (v : Bool) (s : State) : (setV v s).y = s.y := rfl
@[simp] theorem setV_flags (v : Bool) (s : State) : (setV v s).flags = { s.flags with v := v } := rfl
@[simp] theorem setV_cyc (v : Bool) (s : State) : (setV v s).cyc = s.cyc := rfl
@[simp] theorem setV_bonus (v : Bool) (s : State) : (setV v s).bonus = s.bonus := rfl
@[simp] theorem setV_brkHalt (v : Bool) (s : State) : (setV v s).brkHalt = s.brkHalt := rfl
@[simp] theorem setV_illegal (v : Bool) (s : State) : (setV v s).illegal = s.illegal := rfl
@[simp] theorem setV_mem (v : Bool) (s : State) : (setV v s).mem = s.mem := rfl
@[simp] theorem setV_pcSeeded (v : Bool) (s : State) : (setV v s).pcSeeded = s.pcSeeded := rfl
@[simp] theorem setV_cfg (v : Bool) (s : State) : (setV v s).cfg = s.cfg := rfl

/-! ## `setN` -/

@[simp] theorem setN_pc (v : Bool) (s : State) : (setN v s).pc = s.pc := rfl
@[simp] theorem setN_sp (v : Bool) (s : State) : (setN v s).sp = s.sp := rfl
@[simp] theorem setN_a (v : Bool) (s : State) : (setN v s).a = s.a := rfl
@[simp] theorem setN_x (v : Bool) (s : State) : (setN v s).x = s.x := rfl
@[simp] theorem setN_y (v : Bool) (s : State) : (setN v s).y = s.y := rfl
@[simp] theorem setN_flags (v : Bool) (s : State) : (setN v s).flags = { s.flags with n := v } := rfl
@[simp] theorem setN_cyc (v : Bool) (s : State) : (setN v s).cyc = s.cyc := rfl
@[simp] theorem setN_bonus (v : Bool) (s : State) : (setN v s).bonus = s.bonus := rfl
@[simp] theorem setN_brkHalt (v : Bool) (s : State) : (setN v s).brkHalt = s.brkHalt := rfl
@[simp] theorem setN_illegal (v : Bool) (s : State) : (setN v s).illegal = s.illegal := rfl
@[simp] theorem setN_mem (v : Bool) (s : State) : (setN v s).mem = s.mem := rfl
@[simp] theorem setN_pcSeeded (v : Bool) (s : State) : (setN v s).pcSeeded = s.pcSeeded := rfl
@[simp] theorem setN_cfg (v : Bool) (s : State) : (setN v s).cfg = s.cfg := rfl

/-! ## `setZN` -/

@[simp] theorem setZN_pc (v : Byte) (s : State) : (setZN v s).pc = s.pc := rfl
@[simp] theorem setZN_sp (v : Byte) (s : State) : (setZN v s).sp = s.sp := rfl
@[simp] theorem setZN_a (v : Byte) (s : State) : (setZN v s).a = s.a := rfl
@[simp] theorem setZN_x (v : Byte) (s : State) : (setZN v s).x = s.x := rfl
@[simp] theorem setZN_y (v : Byte) (s : State) : (setZN v s).y = s.y := rfl
@[simp] theorem setZN_flags (v : Byte) (s : State) : (setZN v s).flags = { s.flags with z := v == 0, n := v.getLsbD 7 } := rfl
@[simp] theorem setZN_cyc (v : Byte) (s : State) : (setZN v s).cyc = s.cyc := rfl
@[simp] theorem setZN_bonus (v : Byte) (s : State) : (setZN v s).bonus = s.bonus := rfl
@[simp] theorem setZN_brkHalt (v : Byte) (s : State) : (setZN v s).brkHalt = s.brkHalt := rfl
@[simp] theorem setZN_illegal (v : Byte) (s : State) : (setZN v s).illegal = s.illegal := rfl
@[simp] theorem setZN_mem (v : Byte) (s : State) : (setZN v s).mem = s.mem := rfl
@[simp] theorem setZN_pcSeeded (v : Byte) (s : State) : (setZN v s).pcSeeded = s.pcSeeded := rfl
@[simp] theorem setZN_cfg (v : Byte) (s : State) : (setZN v s).cfg = s.cfg := rfl

/-! ## `memWrite` -/

@[simp] theorem memWrite_pc (k : Word) (v : Byte) (s : State) : (memWrite k v s).pc = s.pc := rfl
@[simp] theorem memWrite_sp (k : Word) (v : Byte) (s : State) : (memWrite k v s).sp = s.sp := rfl
@[simp] theorem memWrite_a (k : Word) (v : Byte) (s : State) : (memWrite k v s).a = s.a := rfl
@[simp] theorem memWrite_x (k : Word) (v : Byte) (s : State) : (memWrite k v s).x = s.x := rfl
@[simp] theorem memWrite_y (k : Word) (v : Byte) (s : State) : (memWrite k v s).y = s.y := rfl
@[simp] theorem memWrite_flags (k : Word) (v : Byte) (s : State) : (memWrite k v s).flags = s.flags := rfl
@[simp] theorem memWrite_cyc (k : Word) (v : Byte) (s : State) : (memWrite k v s).cyc = s.cyc := rfl
@[simp] theorem memWrite_bonus (k : Word) (v : Byte) (s : State) : (memWrite k v s).bonus = s.bonus := rfl
@[simp] theorem memWrite_brkHalt (k : Word) (v : Byte) (s : State) : (memWrite k v s).brkHalt = s.brkHalt := rfl
@[simp] theorem memWrite_illegal (k : Word) (v : Byte) (s : State) : (memWrite k v s).illegal = s.illegal := rfl
@[simp] theorem memWrite_mem (k : Word) (v : Byte) (s : State) : (memWrite k v s).mem = Memory.set s.mem k.toNat v := rfl
@[simp] theorem memWrite_pcSeeded (k : Word) (v : Byte) (s : State) : (memWrite k v s).pcSeeded = s.pcSeeded := rfl
@[simp] theorem memWrite_cfg (k : Word) (v : Byte) (s : State) : (memWrite k v s).cfg = s.cfg := rfl

/-! ## `push` -/

@[simp] theorem push_pc (v : Byte) (s : State) : (push v s).pc = s.pc := rfl
@[simp] theorem push_sp (v : Byte) (s : State) : (push v s).sp = s.sp - 1 := rfl
@[simp] theorem push_a (v : Byte) (s : State) : (push v s).a = s.a := rfl
@[simp] theorem push_x (v : Byte) (s : State) : (push v s).x = s.x := rfl
@[simp] theorem push_y (v : Byte) (s : State) : (push v s).y = s.y := rfl
@[simp] theorem push_flags (v : Byte) (s : State) : (push v s).flags = s.flags := rfl
@[simp] theorem push_cyc (v : Byte) (s : State) : (push v s).cyc = s.cyc := rfl
@[simp] theorem push_bonus (v : Byte) (s : State) : (push v s).bonus = s.bonus := rfl
@[simp] theorem push_brkHalt (v : Byte) (s : State) : (push v s).brkHalt = s.brkHalt := rfl
@[simp] theorem push_illegal (v : Byte) (s : State) : (push v s).illegal = s.illegal := rfl
@[simp] theorem push_mem (v : Byte) (s : State) : (push v s).mem = Memory.set s.mem (stackAddr s.sp).toNat v := rfl
@[simp] theorem push_pcSeeded (v : Byte) (s : State) : (push v s).pcSeeded = s.pcSeeded := rfl
@[simp] theorem push_cfg (v : Byte) (s : State) : (push v s).cfg = s.cfg := rfl

/-! ## `popped` -/

@[simp] theorem popped_pc (s : State) : (popped s).pc = s.pc := rfl
@[simp] theorem popped_sp (s : State) : (popped s).sp = s.sp + 1 := rfl
@[simp] theorem popped_a (s : State) : (popped s).a = s.a := rfl
@[simp] theorem popped_x (s : State) : (popped s).x = s.x := rfl
@[simp] theorem popped_y (s : State) : (popped s).y = s.y := rfl
@[simp] theorem popped_flags (s : State) : (popped s).flags = s.flags := rfl
@[simp] theorem popped_cyc (s : State) : (popped s).cyc = s.cyc := rfl
@[simp] theorem popped_bonus (s : State) : (popped s).bonus = s.bonus := rfl
@[simp] theorem popped_brkHalt (s : State) : (popped s).brkHalt = s.brkHalt := rfl
@[simp] theorem popped_illegal (s : State) : (popped s).illegal = s.illegal := rfl
@[simp] theorem popped_mem (s : State) : (popped s).mem = s.mem := rfl
@[simp] theorem popped_pcSeeded (s : State) : (popped s).pcSeeded = s.pcSeeded := rfl
@[simp] theorem popped_cfg (s : State) : (popped s).cfg = s.cfg := rfl

/-! ## `addBonus` -/

@[simp] theorem addBonus_pc (k : Nat) (s : State) : (addBonus k s).pc = s.pc := rfl
@[simp] theorem addBonus_sp (k : Nat) (s : State) : (addBonus k s).sp = s.sp := rfl
@[simp] theorem addBonus_a (k : Nat) (s : State) : (addBonus k s).a = s.a := rfl
@[simp] theorem addBonus_x (k : Nat) (s : State) : (addBonus k s).x = s.x := rfl
@[simp] theorem addBonus_y (k : Nat) (s : State) : (addBonus k s).y = s.y := rfl
@[simp] theorem addBonus_flags (k : Nat) (s : State) : (addBonus k s).flags = s.flags := rfl
@[simp] theorem addBonus_cyc (k : Nat) (s : State) : (addBonus k s).cyc = s.cyc := rfl
@[simp] theorem addBonus_bonus (k : Nat) (s : State) : (addBonus k s).bonus = s.bonus + k := rfl
@[simp] theorem addBonus_brkHalt (k : Nat) (s : State) : (addBonus k s).brkHalt = s.brkHalt := rfl
@[simp] theorem addBonus_illegal (k : Nat) (s : State) : (addBonus k s).illegal = s.illegal := rfl
@[simp] theorem addBonus_mem (k : Nat) (s : State) : (addBonus k s).mem = s.mem := rfl
@[simp] theorem addBonus_pcSeeded (k : Nat) (s : State) : (addBonus k s).pcSeeded = s.pcSeeded := rfl
@[simp] theorem addBonus_cfg (k : Nat) (s : State) : (addBonus k s).cfg = s.cfg := rfl

/-! ## `clearBonus` -/

@[simp] theorem clearBonus_pc (s : State) : (clearBonus s).pc = s.pc := rfl
@[simp] theorem clearBonus_sp (s : State) : (clearBonus s).sp = s.sp := rfl
@[simp] theorem clearBonus_a (s : State) : (clearBonus s).a = s.a := rfl
@[simp] theorem clearBonus_x (s : State) : (clearBonus s).x = s.x := rfl
@[simp] theorem clearBonus_y (s : State) : (clearBonus s).y = s.y := rfl
@[simp] theorem clearBonus_flags (s : State) : (clearBonus s).flags = s.flags := rfl
@[simp] theorem clearBonus_cyc (s : State) : (clearBonus s).cyc = s.cyc := rfl
@[simp] theorem clearBonus_bonus (s : State) : (clearBonus s).bonus = 0 := rfl
@[simp] theorem clearBonus_brkHalt (s : State) : (clearBonus s).brkHalt = s.brkHalt := rfl
@[simp] theorem clearBonus_illegal (s : State) : (clearBonus s).illegal = s.illegal := rfl
@[simp] theorem clearBonus_mem (s : State) : (clearBonus s).mem = s.mem := rfl
@[simp] theorem clearBonus_pcSeeded (s : State) : (clearBonus s).pcSeeded = s.pcSeeded := rfl
@[simp] theorem clearBonus_cfg (s : State) : (clearBonus s).cfg = s.cfg := rfl

/-! ## `advance` -/

@[simp] theorem advance_pc (len : Nat) (s : State) : (advance len s).pc = s.pc + BitVec.ofNat 16 len := rfl
@[simp] theorem advance_sp (len : Nat) (s : State) : (advance len s).sp = s.sp := rfl
@[simp] theorem advance_a (len : Nat) (s : State) : (advance len s).a = s.a := rfl
@[simp] theorem advance_x (len : Nat) (s : State) : (advance len s).x = s.x := rfl
@[simp] theorem advance_y (len : Nat) (s : State) : (advance len s).y = s.y := rfl
@[simp] theorem advance_flags (len : Nat) (s : State) : (advance len s).flags = s.flags := rfl
@[simp] theorem advance_cyc (len : Nat) (s : State) : (advance len s).cyc = s.cyc := rfl
@[simp] theorem advance_bonus (len : Nat) (s : State) : (advance len s).bonus = s.bonus := rfl
@[simp] theorem advance_brkHalt (len : Nat) (s : State) : (advance len s).brkHalt = s.brkHalt := rfl
@[simp] theorem advance_illegal (len : Nat) (s : State) : (advance len s).illegal = s.illegal := rfl
@[simp] theorem advance_mem (len : Nat) (s : State) : (advance len s).mem = s.mem := rfl
@[simp] theorem advance_pcSeeded (len : Nat) (s : State) : (advance len s).pcSeeded = s.pcSeeded := rfl
@[simp] theorem advance_cfg (len : Nat) (s : State) : (advance len s).cfg = s.cfg := rfl

/-! ## `rearm` -/

@[simp] theorem rearm_pc (op : Byte) (s : State) : (rearm op s).pc = s.pc := rfl
@[simp] theorem rearm_sp (op : Byte) (s : State) : (rearm op s).sp = s.sp := rfl
@[simp] theorem rearm_a (op : Byte) (s : State) : (rearm op s).a = s.a := rfl
@[simp] theorem rearm_x (op : Byte) (s : State) : (rearm op s).x = s.x := rfl
@[simp] theorem rearm_y (op : Byte) (s : State) : (rearm op s).y = s.y := rfl
@[simp] theorem rearm_flags (op : Byte) (s : State) : (rearm op s).flags = s.flags := rfl
@[simp] theorem rearm_cyc (op : Byte) (s : State) : (rearm op s).cyc = baseCycles s.cfg op + s.bonus - s.cfg.tickBias.val := rfl
@[simp] theorem rearm_bonus (op : Byte) (s : State) : (rearm op s).bonus = s.bonus := rfl
@[simp] theorem rearm_brkHalt (op : Byte) (s : State) : (rearm op s).brkHalt = s.brkHalt := rfl
@[simp] theorem rearm_illegal (op : Byte) (s : State) : (rearm op s).illegal = s.illegal := rfl
@[simp] theorem rearm_mem (op : Byte) (s : State) : (rearm op s).mem = s.mem := rfl
@[simp] theorem rearm_pcSeeded (op : Byte) (s : State) : (rearm op s).pcSeeded = s.pcSeeded := rfl
@[simp] theorem rearm_cfg (op : Byte) (s : State) : (rearm op s).cfg = s.cfg := rfl

/-! ## `burn` -/

@[simp] theorem burn_pc (s : State) : (burn s).pc = s.pc := rfl
@[simp] theorem burn_sp (s : State) : (burn s).sp = s.sp := rfl
@[simp] theorem burn_a (s : State) : (burn s).a = s.a := rfl
@[simp] theorem burn_x (s : State) : (burn s).x = s.x := rfl
@[simp] theorem burn_y (s : State) : (burn s).y = s.y := rfl
@[simp] theorem burn_flags (s : State) : (burn s).flags = s.flags := rfl
@[simp] theorem burn_cyc (s : State) : (burn s).cyc = s.cyc - 1 := rfl
@[simp] theorem burn_bonus (s : State) : (burn s).bonus = s.bonus := rfl
@[simp] theorem burn_brkHalt (s : State) : (burn s).brkHalt = s.brkHalt := rfl
@[simp] theorem burn_illegal (s : State) : (burn s).illegal = s.illegal := rfl
@[simp] theorem burn_mem (s : State) : (burn s).mem = s.mem := rfl
@[simp] theorem burn_pcSeeded (s : State) : (burn s).pcSeeded = s.pcSeeded := rfl
@[simp] theorem burn_cfg (s : State) : (burn s).cfg = s.cfg := rfl

/-! ## `raise .illegalOpcode` -/

@[simp] theorem raise_illegalOpcode_pc (s : State) : (raise .illegalOpcode s).pc = s.pc := rfl
@[simp] theorem raise_illegalOpcode_sp (s : State) : (raise .illegalOpcode s).sp = s.sp := rfl
@[simp] theorem raise_illegalOpcode_a (s : State) : (raise .illegalOpcode s).a = s.a := rfl
@[simp] theorem raise_illegalOpcode_x (s : State) : (raise .illegalOpcode s).x = s.x := rfl
@[simp] theorem raise_illegalOpcode_y (s : State) : (raise .illegalOpcode s).y = s.y := rfl
@[simp] theorem raise_illegalOpcode_flags (s : State) : (raise .illegalOpcode s).flags = s.flags := rfl
@[simp] theorem raise_illegalOpcode_cyc (s : State) : (raise .illegalOpcode s).cyc = s.cyc := rfl
@[simp] theorem raise_illegalOpcode_bonus (s : State) : (raise .illegalOpcode s).bonus = s.bonus := rfl
@[simp] theorem raise_illegalOpcode_brkHalt (s : State) : (raise .illegalOpcode s).brkHalt = s.brkHalt := rfl
@[simp] theorem raise_illegalOpcode_illegal (s : State) : (raise .illegalOpcode s).illegal = true := rfl
@[simp] theorem raise_illegalOpcode_mem (s : State) : (raise .illegalOpcode s).mem = s.mem := rfl
@[simp] theorem raise_illegalOpcode_pcSeeded (s : State) : (raise .illegalOpcode s).pcSeeded = s.pcSeeded := rfl
@[simp] theorem raise_illegalOpcode_cfg (s : State) : (raise .illegalOpcode s).cfg = s.cfg := rfl

/-! ## `raise .breakHalt` -/

@[simp] theorem raise_breakHalt_pc (s : State) : (raise .breakHalt s).pc = s.pc := rfl
@[simp] theorem raise_breakHalt_sp (s : State) : (raise .breakHalt s).sp = s.sp := rfl
@[simp] theorem raise_breakHalt_a (s : State) : (raise .breakHalt s).a = s.a := rfl
@[simp] theorem raise_breakHalt_x (s : State) : (raise .breakHalt s).x = s.x := rfl
@[simp] theorem raise_breakHalt_y (s : State) : (raise .breakHalt s).y = s.y := rfl
@[simp] theorem raise_breakHalt_flags (s : State) : (raise .breakHalt s).flags = s.flags := rfl
@[simp] theorem raise_breakHalt_cyc (s : State) : (raise .breakHalt s).cyc = s.cyc := rfl
@[simp] theorem raise_breakHalt_bonus (s : State) : (raise .breakHalt s).bonus = s.bonus := rfl
@[simp] theorem raise_breakHalt_brkHalt (s : State) : (raise .breakHalt s).brkHalt = true := rfl
@[simp] theorem raise_breakHalt_illegal (s : State) : (raise .breakHalt s).illegal = s.illegal := rfl
@[simp] theorem raise_breakHalt_mem (s : State) : (raise .breakHalt s).mem = s.mem := rfl
@[simp] theorem raise_breakHalt_pcSeeded (s : State) : (raise .breakHalt s).pcSeeded = s.pcSeeded := rfl
@[simp] theorem raise_breakHalt_cfg (s : State) : (raise .breakHalt s).cfg = s.cfg := rfl

/-! ## `crossingBonus` -/

theorem crossingBonus_eq (op : Byte) (crosses : Bool) (s : State) :
    crossingBonus op crosses s =
      { s with bonus := s.bonus + if crosses && paysCrossing s.cfg op then 1 else 0 } := by
  unfold crossingBonus
  split <;> rfl

@[simp] theorem crossingBonus_pc (op : Byte) (crosses : Bool) (s : State) :
    (crossingBonus op crosses s).pc = s.pc := by rw [crossingBonus_eq]
@[simp] theorem crossingBonus_sp (op : Byte) (crosses : Bool) (s : State) :
    (crossingBonus op crosses s).sp = s.sp := by rw [crossingBonus_eq]
@[simp] theorem crossingBonus_a (op : Byte) (crosses : Bool) (s : State) :
    (crossingBonus op crosses s).a = s.a := by rw [crossingBonus_eq]
@[simp] theorem crossingBonus_x (op : Byte) (crosses : Bool) (s : State) :
    (crossingBonus op crosses s).x = s.x := by rw [crossingBonus_eq]
@[simp] theorem crossingBonus_y (op : Byte) (crosses : Bool) (s : State) :
    (crossingBonus op crosses s).y = s.y := by rw [crossingBonus_eq]
@[simp] theorem crossingBonus_flags (op : Byte) (crosses : Bool) (s : State) :
    (crossingBonus op crosses s).flags = s.flags := by rw [crossingBonus_eq]
@[simp] theorem crossingBonus_cyc (op : Byte) (crosses : Bool) (s : State) :
    (crossingBonus op crosses s).cyc = s.cyc := by rw [crossingBonus_eq]
@[simp] theorem crossingBonus_bonus (op : Byte) (crosses : Bool) (s : State) :
    (crossingBonus op crosses s).bonus = s.bonus + if crosses && paysCrossing s.cfg op then 1 else 0 := by rw [crossingBonus_eq]
@[simp] theorem crossingBonus_brkHalt (op : Byte) (crosses : Bool) (s : State) :
    (crossingBonus op crosses s).brkHalt = s.brkHalt := by rw [crossingBonus_eq]
@[simp] theorem crossingBonus_illegal (op : Byte) (crosses : Bool) (s : State) :
    (crossingBonus op crosses s).illegal = s.illegal := by rw [crossingBonus_eq]
@[simp] theorem crossingBonus_mem (op : Byte) (crosses : Bool) (s : State) :
    (crossingBonus op crosses s).mem = s.mem := by rw [crossingBonus_eq]
@[simp] theorem crossingBonus_pcSeeded (op : Byte) (crosses : Bool) (s : State) :
    (crossingBonus op crosses s).pcSeeded = s.pcSeeded := by rw [crossingBonus_eq]
@[simp] theorem crossingBonus_cfg (op : Byte) (crosses : Bool) (s : State) :
    (crossingBonus op crosses s).cfg = s.cfg := by rw [crossingBonus_eq]

/-! ## `enter` -/

@[simp] theorem enter_pc (op : Byte) (m : AddrMode) (s : State) :
    (enter op m s).pc = s.pc + BitVec.ofNat 16 m.length := by simp [enter]
@[simp] theorem enter_sp (op : Byte) (m : AddrMode) (s : State) :
    (enter op m s).sp = s.sp := by simp [enter]
@[simp] theorem enter_a (op : Byte) (m : AddrMode) (s : State) :
    (enter op m s).a = s.a := by simp [enter]
@[simp] theorem enter_x (op : Byte) (m : AddrMode) (s : State) :
    (enter op m s).x = s.x := by simp [enter]
@[simp] theorem enter_y (op : Byte) (m : AddrMode) (s : State) :
    (enter op m s).y = s.y := by simp [enter]
@[simp] theorem enter_flags (op : Byte) (m : AddrMode) (s : State) :
    (enter op m s).flags = s.flags := by simp [enter]
@[simp] theorem enter_cyc (op : Byte) (m : AddrMode) (s : State) :
    (enter op m s).cyc = s.cyc := by simp [enter]
@[simp] theorem enter_bonus (op : Byte) (m : AddrMode) (s : State) :
    (enter op m s).bonus = s.bonus + if crossed m s && paysCrossing s.cfg op then 1 else 0 := by simp [enter]
@[simp] theorem enter_brkHalt (op : Byte) (m : AddrMode) (s : State) :
    (enter op m s).brkHalt = s.brkHalt := by simp [enter]
@[simp] theorem enter_illegal (op : Byte) (m : AddrMode) (s : State) :
    (enter op m s).illegal = s.illegal := by simp [enter]
@[simp] theorem enter_mem (op : Byte) (m : AddrMode) (s : State) :
    (enter op m s).mem = s.mem := by simp [enter]
@[simp] theorem enter_pcSeeded (op : Byte) (m : AddrMode) (s : State) :
    (enter op m s).pcSeeded = s.pcSeeded := by simp [enter]
@[simp] theorem enter_cfg (op : Byte) (m : AddrMode) (s : State) :
    (enter op m s).cfg = s.cfg := by simp [enter]

/-! ## `opWrite`: `a` or one byte of memory, nothing else -/

@[simp] theorem opWrite_acc (v : Byte) (s : State) : opWrite .acc v s = setA v s := rfl
@[simp] theorem opWrite_mem (k : Word) (v : Byte) (s : State) : opWrite (.mem k) v s = memWrite k v s := rfl
@[simp] theorem opRead_acc (s : State) : opRead .acc s = s.a := rfl
@[simp] theorem opRead_mem (k : Word) (s : State) : opRead (.mem k) s = memRead s k := rfl

/-! ## Reading memory looks at `mem` alone -/

@[simp] theorem memRead_setPc (v : Word) (s : State) (j : Word) : memRead (setPc v s) j = memRead s j := rfl
@[simp] theorem memRead_setSp (v : Byte) (s : State) (j : Word) : memRead (setSp v s) j = memRead s j := rfl
@[simp] theorem memRead_setA (v : Byte) (s : State) (j : Word) : memRead (setA v s) j = memRead s j := rfl
@[simp] theorem memRead_setX (v : Byte) (s : State) (j : Word) : memRead (setX v s) j = memRead s j := rfl
@[simp] theorem memRead_setY (v : Byte) (s : State) (j : Word) : memRead (setY v s) j = memRead s j := rfl
@[simp] theorem memRead_setFlags (f : Flags) (s : State) (j : Word) : memRead (setFlags f s) j = memRead s j := rfl
@[simp] theorem memRead_setC (v : Bool) (s : State) (j : Word) : memRead (setC v s) j = memRead s j := rfl
@[simp] theorem memRead_setZ (v : Bool) (s : State) (j : Word) : memRead (setZ v s) j = memRead s j := rfl
@[simp] theorem memRead_setI (v : Bool) (s : State) (j : Word) : memRead (setI v s) j = memRead s j := rfl
@[simp] theorem memRead_setD (v : Bool) (s : State) (j : Word) : memRead (setD v s) j = memRead s j := rfl
@[simp] theorem memRead_setV (v : Bool) (s : State) (j : Word) : memRead (setV v s) j = memRead s j := rfl
@[simp] theorem memRead_setN (v : Bool) (s : State) (j : Word) : memRead (setN v s) j = memRead s j := rfl
@[simp] theorem memRead_setZN (v : Byte) (s : State) (j : Word) : memRead (setZN v s) j = memRead s j := rfl
@[simp] theorem memRead_popped (s : State) (j : Word) : memRead (popped s) j = memRead s j := rfl
@[simp] theorem memRead_addBonus (k : Nat) (s : State) (j : Word) : memRead (addBonus k s) j = memRead s j := rfl
@[simp] theorem memRead_clearBonus (s : State) (j : Word) : memRead (clearBonus s) j = memRead s j := rfl
@[simp] theorem memRead_advance (len : Nat) (s : State) (j : Word) : memRead (advance len s) j = memRead s j := rfl
@[simp] theorem memRead_rearm (op : Byte) (s : State) (j : Word) : memRead (rearm op s) j = memRead s j := rfl
@[simp] theorem memRead_burn (s : State) (j : Word) : memRead (burn s) j = memRead s j := rfl
@[simp] theorem memRead_enter (op : Byte) (m : AddrMode) (s : State) (j : Word) :
    memRead (enter op m s) j = memRead s j := by simp [memRead]

end Sys2Proof.Machine
end

