-- ==== Sys2Proof/Laws/Exec.lean ====
section
/-! SUPPORT. One equation for every instruction: the shape, opcode, mode and handler that `exec` runs it with. Proofs
cite these and the lemmas about the shapes, and do not unfold `exec`. -/

namespace Sys2Proof.Machine

theorem exec_brk (s : State) : exec (.brk) s = .next (runImplied 0x00 brkOp s) := rfl
theorem exec_oraIndX (b : Byte) (s : State) : exec (.oraIndX b) s = .next (runRead 0x01 (.indx b) oraOp s) := rfl
theorem exec_tsbZp (b : Byte) (s : State) : exec (.tsbZp b) s = .next (runModify 0x04 (.zp b) tsbOp s) := rfl
theorem exec_oraZp (b : Byte) (s : State) : exec (.oraZp b) s = .next (runRead 0x05 (.zp b) oraOp s) := rfl
theorem exec_aslZp (b : Byte) (s : State) : exec (.aslZp b) s = .next (runModify 0x06 (.zp b) aslOp s) := rfl
theorem exec_php (s : State) : exec (.php) s = .next (runImplied 0x08 phpOp s) := rfl
theorem exec_oraImm (b : Byte) (s : State) : exec (.oraImm b) s = .next (runImm 0x09 b oraOp s) := rfl
theorem exec_aslA (s : State) : exec (.aslA) s = .next (runAcc 0x0A aslOp s) := rfl
theorem exec_tsbAbs (w : Word) (s : State) : exec (.tsbAbs w) s = .next (runModify 0x0C (.abs w) tsbOp s) := rfl
theorem exec_oraAbs (w : Word) (s : State) : exec (.oraAbs w) s = .next (runRead 0x0D (.abs w) oraOp s) := rfl
theorem exec_aslAbs (w : Word) (s : State) : exec (.aslAbs w) s = .next (runModify 0x0E (.abs w) aslOp s) := rfl
theorem exec_bpl (b : Byte) (s : State) : exec (.bpl b) s = .next (runAddr 0x10 (.rel b) bplOp s) := rfl
theorem exec_oraIndY (b : Byte) (s : State) : exec (.oraIndY b) s = .next (runRead 0x11 (.indy b) oraOp s) := rfl
theorem exec_trbZp (b : Byte) (s : State) : exec (.trbZp b) s = .next (runModify 0x14 (.zp b) trbOp s) := rfl
theorem exec_oraZpX (b : Byte) (s : State) : exec (.oraZpX b) s = .next (runRead 0x15 (.zpx b) oraOp s) := rfl
theorem exec_aslZpX (b : Byte) (s : State) : exec (.aslZpX b) s = .next (runModify 0x16 (.zpx b) aslOp s) := rfl
theorem exec_clc (s : State) : exec (.clc) s = .next (runImplied 0x18 clcOp s) := rfl
theorem exec_oraAbsY (w : Word) (s : State) : exec (.oraAbsY w) s = .next (runRead 0x19 (.absy w) oraOp s) := rfl
theorem exec_incA (s : State) : exec (.incA) s = .next (runAcc 0x1A incOp s) := rfl
theorem exec_trbAbs (w : Word) (s : State) : exec (.trbAbs w) s = .next (runModify 0x1C (.abs w) trbOp s) := rfl
theorem exec_oraAbsX (w : Word) (s : State) : exec (.oraAbsX w) s = .next (runRead 0x1D (.absx w) oraOp s) := rfl
theorem exec_aslAbsX (w : Word) (s : State) : exec (.aslAbsX w) s = .next (runModify 0x1E (.absx w) aslOp s) := rfl
theorem exec_jsr (w : Word) (s : State) : exec (.jsr w) s = .next (runAddr 0x20 (.abs w) jsrOp s) := rfl
theorem exec_andIndX (b : Byte) (s : State) : exec (.andIndX b) s = .next (runRead 0x21 (.indx b) andOp s) := rfl
theorem exec_bitZp (b : Byte) (s : State) : exec (.bitZp b) s = .next (runRead 0x24 (.zp b) bitOp s) := rfl
theorem exec_andZp (b : Byte) (s : State) : exec (.andZp b) s = .next (runRead 0x25 (.zp b) andOp s) := rfl
theorem exec_rolZp (b : Byte) (s : State) : exec (.rolZp b) s = .next (runModify 0x26 (.zp b) rolOp s) := rfl
theorem exec_plp (s : State) : exec (.plp) s = .next (runImplied 0x28 plpOp s) := rfl
theorem exec_andImm (b : Byte) (s : State) : exec (.andImm b) s = .next (runImm 0x29 b andOp s) := rfl
theorem exec_rolA (s : State) : exec (.rolA) s = .next (runAcc 0x2A rolOp s) := rfl
theorem exec_bitAbs (w : Word) (s : State) : exec (.bitAbs w) s = .next (runRead 0x2C (.abs w) bitOp s) := rfl
theorem exec_andAbs (w : Word) (s : State) : exec (.andAbs w) s = .next (runRead 0x2D (.abs w) andOp s) := rfl
theorem exec_rolAbs (w : Word) (s : State) : exec (.rolAbs w) s = .next (runModify 0x2E (.abs w) rolOp s) := rfl
theorem exec_bmi (b : Byte) (s : State) : exec (.bmi b) s = .next (runAddr 0x30 (.rel b) bmiOp s) := rfl
theorem exec_andIndY (b : Byte) (s : State) : exec (.andIndY b) s = .next (runRead 0x31 (.indy b) andOp s) := rfl
theorem exec_bitZpX (b : Byte) (s : State) : exec (.bitZpX b) s = .next (runRead 0x34 (.zpx b) bitOp s) := rfl
theorem exec_andZpX (b : Byte) (s : State) : exec (.andZpX b) s = .next (runRead 0x35 (.zpx b) andOp s) := rfl
theorem exec_rolZpX (b : Byte) (s : State) : exec (.rolZpX b) s = .next (runModify 0x36 (.zpx b) rolOp s) := rfl
theorem exec_sec (s : State) : exec (.sec) s = .next (runImplied 0x38 secOp s) := rfl
theorem exec_andAbsY (w : Word) (s : State) : exec (.andAbsY w) s = .next (runRead 0x39 (.absy w) andOp s) := rfl
theorem exec_decA (s : State) : exec (.decA) s = .next (runAcc 0x3A decOp s) := rfl
theorem exec_bitAbsX (w : Word) (s : State) : exec (.bitAbsX w) s = .next (runRead 0x3C (.absx w) bitOp s) := rfl
theorem exec_andAbsX (w : Word) (s : State) : exec (.andAbsX w) s = .next (runRead 0x3D (.absx w) andOp s) := rfl
theorem exec_rolAbsX (w : Word) (s : State) : exec (.rolAbsX w) s = .next (runModify 0x3E (.absx w) rolOp s) := rfl
theorem exec_rti (s : State) : exec (.rti) s = .next (runImplied 0x40 rtiOp s) := rfl
theorem exec_eorIndX (b : Byte) (s : State) : exec (.eorIndX b) s = .next (runRead 0x41 (.indx b) eorOp s) := rfl
theorem exec_eorZp (b : Byte) (s : State) : exec (.eorZp b) s = .next (runRead 0x45 (.zp b) eorOp s) := rfl
theorem exec_lsrZp (b : Byte) (s : State) : exec (.lsrZp b) s = .next (runModify 0x46 (.zp b) lsrOp s) := rfl
theorem exec_pha (s : State) : exec (.pha) s = .next (runImplied 0x48 phaOp s) := rfl
theorem exec_eorImm (b : Byte) (s : State) : exec (.eorImm b) s = .next (runImm 0x49 b eorOp s) := rfl
theorem exec_lsrA (s : State) : exec (.lsrA) s = .next (runAcc 0x4A lsrOp s) := rfl
theorem exec_jmpAbs (w : Word) (s : State) : exec (.jmpAbs w) s = .next (runAddr 0x4C (.abs w) jmpOp s) := rfl
theorem exec_eorAbs (w : Word) (s : State) : exec (.eorAbs w) s = .next (runRead 0x4D (.abs w) eorOp s) := rfl
theorem exec_lsrAbs (w : Word) (s : State) : exec (.lsrAbs w) s = .next (runModify 0x4E (.abs w) lsrOp s) := rfl
theorem exec_bvc (b : Byte) (s : State) : exec (.bvc b) s = .next (runAddr 0x50 (.rel b) bvcOp s) := rfl
theorem exec_eorIndY (b : Byte) (s : State) : exec (.eorIndY b) s = .next (runRead 0x51 (.indy b) eorOp s) := rfl
theorem exec_eorZpX (b : Byte) (s : State) : exec (.eorZpX b) s = .next (runRead 0x55 (.zpx b) eorOp s) := rfl
theorem exec_lsrZpX (b : Byte) (s : State) : exec (.lsrZpX b) s = .next (runModify 0x56 (.zpx b) lsrOp s) := rfl
theorem exec_cli (s : State) : exec (.cli) s = .next (runImplied 0x58 cliOp s) := rfl
theorem exec_eorAbsY (w : Word) (s : State) : exec (.eorAbsY w) s = .next (runRead 0x59 (.absy w) eorOp s) := rfl
theorem exec_phy (s : State) : exec (.phy) s = .next (runImplied 0x5A phyOp s) := rfl
theorem exec_eorAbsX (w : Word) (s : State) : exec (.eorAbsX w) s = .next (runRead 0x5D (.absx w) eorOp s) := rfl
theorem exec_lsrAbsX (w : Word) (s : State) : exec (.lsrAbsX w) s = .next (runModify 0x5E (.absx w) lsrOp s) := rfl
theorem exec_rts (s : State) : exec (.rts) s = .next (runImplied 0x60 rtsOp s) := rfl
theorem exec_adcIndX (b : Byte) (s : State) : exec (.adcIndX b) s = .next (runRead 0x61 (.indx b) adcOp s) := rfl
theorem exec_stzZp (b : Byte) (s : State) : exec (.stzZp b) s = .next (runAddr 0x64 (.zp b) stzOp s) := rfl
theorem exec_adcZp (b : Byte) (s : State) : exec (.adcZp b) s = .next (runRead 0x65 (.zp b) adcOp s) := rfl
theorem exec_rorZp (b : Byte) (s : State) : exec (.rorZp b) s = .next (runModify 0x66 (.zp b) rorOp s) := rfl
theorem exec_pla (s : State) : exec (.pla) s = .next (runImplied 0x68 plaOp s) := rfl
theorem exec_adcImm (b : Byte) (s : State) : exec (.adcImm b) s = .next (runImm 0x69 b adcOp s) := rfl
theorem exec_rorA (s : State) : exec (.rorA) s = .next (runAcc 0x6A rorOp s) := rfl
theorem exec_jmpInd (w : Word) (s : State) : exec (.jmpInd w) s = .next (runAddr 0x6C (.ind w) jmpOp s) := rfl
theorem exec_adcAbs (w : Word) (s : State) : exec (.adcAbs w) s = .next (runRead 0x6D (.abs w) adcOp s) := rfl
theorem exec_rorAbs (w : Word) (s : State) : exec (.rorAbs w) s = .next (runModify 0x6E (.abs w) rorOp s) := rfl
theorem exec_bvs (b : Byte) (s : State) : exec (.bvs b) s = .next (runAddr 0x70 (.rel b) bvsOp s) := rfl
theorem exec_adcIndY (b : Byte) (s : State) : exec (.adcIndY b) s = .next (runRead 0x71 (.indy b) adcOp s) := rfl
theorem exec_stzZpX (b : Byte) (s : State) : exec (.stzZpX b) s = .next (runAddr 0x74 (.zpx b) stzOp s) := rfl
theorem exec_adcZpX (b : Byte) (s : State) : exec (.adcZpX b) s = .next (runRead 0x75 (.zpx b) adcOp s) := rfl
theorem exec_rorZpX (b : Byte) (s : State) : exec (.rorZpX b) s = .next (runModify 0x76 (.zpx b) rorOp s) := rfl
theorem exec_sei (s : State) : exec (.sei) s = .next (runImplied 0x78 seiOp s) := rfl
theorem exec_adcAbsY (w : Word) (s : State) : exec (.adcAbsY w) s = .next (runRead 0x79 (.absy w) adcOp s) := rfl
theorem exec_ply (s : State) : exec (.ply) s = .next (runImplied 0x7A plyOp s) := rfl
theorem exec_jmpIndAbsX (w : Word) (s : State) : exec (.jmpIndAbsX w) s = .next (runAddr 0x7C (.indabsx w) jmpOp s) := rfl
theorem exec_adcAbsX (w : Word) (s : State) : exec (.adcAbsX w) s = .next (runRead 0x7D (.absx w) adcOp s) := rfl
theorem exec_rorAbsX (w : Word) (s : State) : exec (.rorAbsX w) s = .next (runModify 0x7E (.absx w) rorOp s) := rfl
theorem exec_bra (b : Byte) (s : State) : exec (.bra b) s = .next (runAddr 0x80 (.rel b) braOp s) := rfl
theorem exec_staIndX (b : Byte) (s : State) : exec (.staIndX b) s = .next (runAddr 0x81 (.indx b) staOp s) := rfl
theorem exec_styZp (b : Byte) (s : State) : exec (.styZp b) s = .next (runAddr 0x84 (.zp b) styOp s) := rfl
theorem exec_staZp (b : Byte) (s : State) : exec (.staZp b) s = .next (runAddr 0x85 (.zp b) staOp s) := rfl
theorem exec_stxZp (b : Byte) (s : State) : exec (.stxZp b) s = .next (runAddr 0x86 (.zp b) stxOp s) := rfl
theorem exec_dey (s : State) : exec (.dey) s = .next (runImplied 0x88 deyOp s) := rfl
theorem exec_bitImm (b : Byte) (s : State) : exec (.bitImm b) s = .next (runImm 0x89 b bitImmOp s) := rfl
theorem exec_txa (s : State) : exec (.txa) s = .next (runImplied 0x8A txaOp s) := rfl
theorem exec_styAbs (w : Word) (s : State) : exec (.styAbs w) s = .next (runAddr 0x8C (.abs w) styOp s) := rfl
theorem exec_staAbs (w : Word) (s : State) : exec (.staAbs w) s = .next (runAddr 0x8D (.abs w) staOp s) := rfl
theorem exec_stxAbs (w : Word) (s : State) : exec (.stxAbs w) s = .next (runAddr 0x8E (.abs w) stxOp s) := rfl
theorem exec_bcc (b : Byte) (s : State) : exec (.bcc b) s = .next (runAddr 0x90 (.rel b) bccOp s) := rfl
theorem exec_staIndY (b : Byte) (s : State) : exec (.staIndY b) s = .next (runAddr 0x91 (.indy b) staOp s) := rfl
theorem exec_styZpX (b : Byte) (s : State) : exec (.styZpX b) s = .next (runAddr 0x94 (.zpx b) styOp s) := rfl
theorem exec_staZpX (b : Byte) (s : State) : exec (.staZpX b) s = .next (runAddr 0x95 (.zpx b) staOp s) := rfl
theorem exec_stxZpY (b : Byte) (s : State) : exec (.stxZpY b) s = .next (runAddr 0x96 (.zpy b) stxOp s) := rfl
theorem exec_tya (s : State) : exec (.tya) s = .next (runImplied 0x98 tyaOp s) := rfl
theorem exec_staAbsY (w : Word) (s : State) : exec (.staAbsY w) s = .next (runAddr 0x99 (.absy w) staOp s) := rfl
theorem exec_txs (s : State) : exec (.txs) s = .next (runImplied 0x9A txsOp s) := rfl
theorem exec_stzAbs (w : Word) (s : State) : exec (.stzAbs w) s = .next (runAddr 0x9C (.abs w) stzOp s) := rfl
theorem exec_staAbsX (w : Word) (s : State) : exec (.staAbsX w) s = .next (runAddr 0x9D (.absx w) staOp s) := rfl
theorem exec_stzAbsX (w : Word) (s : State) : exec (.stzAbsX w) s = .next (runAddr 0x9E (.absx w) stzOp s) := rfl
theorem exec_ldyImm (b : Byte) (s : State) : exec (.ldyImm b) s = .next (runImm 0xA0 b ldyOp s) := rfl
theorem exec_ldaIndX (b : Byte) (s : State) : exec (.ldaIndX b) s = .next (runRead 0xA1 (.indx b) ldaOp s) := rfl
theorem exec_ldxImm (b : Byte) (s : State) : exec (.ldxImm b) s = .next (runImm 0xA2 b ldxOp s) := rfl
theorem exec_ldyZp (b : Byte) (s : State) : exec (.ldyZp b) s = .next (runRead 0xA4 (.zp b) ldyOp s) := rfl
theorem exec_ldaZp (b : Byte) (s : State) : exec (.ldaZp b) s = .next (runRead 0xA5 (.zp b) ldaOp s) := rfl
theorem exec_ldxZp (b : Byte) (s : State) : exec (.ldxZp b) s = .next (runRead 0xA6 (.zp b) ldxOp s) := rfl
theorem exec_tay (s : State) : exec (.tay) s = .next (runImplied 0xA8 tayOp s) := rfl
theorem exec_ldaImm (b : Byte) (s : State) : exec (.ldaImm b) s = .next (runImm 0xA9 b ldaOp s) := rfl
theorem exec_tax (s : State) : exec (.tax) s = .next (runImplied 0xAA taxOp s) := rfl
theorem exec_ldyAbs (w : Word) (s : State) : exec (.ldyAbs w) s = .next (runRead 0xAC (.abs w) ldyOp s) := rfl
theorem exec_ldaAbs (w : Word) (s : State) : exec (.ldaAbs w) s = .next (runRead 0xAD (.abs w) ldaOp s) := rfl
theorem exec_ldxAbs (w : Word) (s : State) : exec (.ldxAbs w) s = .next (runRead 0xAE (.abs w) ldxOp s) := rfl
theorem exec_bcs (b : Byte) (s : State) : exec (.bcs b) s = .next (runAddr 0xB0 (.rel b) bcsOp s) := rfl
theorem exec_ldaIndY (b : Byte) (s : State) : exec (.ldaIndY b) s = .next (runRead 0xB1 (.indy b) ldaOp s) := rfl
theorem exec_ldyZpX (b : Byte) (s : State) : exec (.ldyZpX b) s = .next (runRead 0xB4 (.zpx b) ldyOp s) := rfl
theorem exec_ldaZpX (b : Byte) (s : State) : exec (.ldaZpX b) s = .next (runRead 0xB5 (.zpx b) ldaOp s) := rfl
theorem exec_ldxZpY (b : Byte) (s : State) : exec (.ldxZpY b) s = .next (runRead 0xB6 (.zpy b) ldxOp s) := rfl
theorem exec_clv (s : State) : exec (.clv) s = .next (runImplied 0xB8 clvOp s) := rfl
theorem exec_ldaAbsY (w : Word) (s : State) : exec (.ldaAbsY w) s = .next (runRead 0xB9 (.absy w) ldaOp s) := rfl
theorem exec_tsx (s : State) : exec (.tsx) s = .next (runImplied 0xBA tsxOp s) := rfl
theorem exec_ldyAbsX (w : Word) (s : State) : exec (.ldyAbsX w) s = .next (runRead 0xBC (.absx w) ldyOp s) := rfl
theorem exec_ldaAbsX (w : Word) (s : State) : exec (.ldaAbsX w) s = .next (runRead 0xBD (.absx w) ldaOp s) := rfl
theorem exec_ldxAbsY (w : Word) (s : State) : exec (.ldxAbsY w) s = .next (runRead 0xBE (.absy w) ldxOp s) := rfl
theorem exec_cpyImm (b : Byte) (s : State) : exec (.cpyImm b) s = .next (runImm 0xC0 b cpyOp s) := rfl
theorem exec_cmpIndX (b : Byte) (s : State) : exec (.cmpIndX b) s = .next (runRead 0xC1 (.indx b) cmpOp s) := rfl
theorem exec_cpyZp (b : Byte) (s : State) : exec (.cpyZp b) s = .next (runRead 0xC4 (.zp b) cpyOp s) := rfl
theorem exec_cmpZp (b : Byte) (s : State) : exec (.cmpZp b) s = .next (runRead 0xC5 (.zp b) cmpOp s) := rfl
theorem exec_decZp (b : Byte) (s : State) : exec (.decZp b) s = .next (runModify 0xC6 (.zp b) decOp s) := rfl
theorem exec_iny (s : State) : exec (.iny) s = .next (runImplied 0xC8 inyOp s) := rfl
theorem exec_cmpImm (b : Byte) (s : State) : exec (.cmpImm b) s = .next (runImm 0xC9 b cmpOp s) := rfl
theorem exec_dex (s : State) : exec (.dex) s = .next (runImplied 0xCA dexOp s) := rfl
theorem exec_cpyAbs (w : Word) (s : State) : exec (.cpyAbs w) s = .next (runRead 0xCC (.abs w) cpyOp s) := rfl
theorem exec_cmpAbs (w : Word) (s : State) : exec (.cmpAbs w) s = .next (runRead 0xCD (.abs w) cmpOp s) := rfl
theorem exec_decAbs (w : Word) (s : State) : exec (.decAbs w) s = .next (runModify 0xCE (.abs w) decOp s) := rfl
theorem exec_bne (b : Byte) (s : State) : exec (.bne b) s = .next (runAddr 0xD0 (.rel b) bneOp s) := rfl
theorem exec_cmpIndY (b : Byte) (s : State) : exec (.cmpIndY b) s = .next (runRead 0xD1 (.indy b) cmpOp s) := rfl
theorem exec_cmpZpX (b : Byte) (s : State) : exec (.cmpZpX b) s = .next (runRead 0xD5 (.zpx b) cmpOp s) := rfl
theorem exec_decZpX (b : Byte) (s : State) : exec (.decZpX b) s = .next (runModify 0xD6 (.zpx b) decOp s) := rfl
theorem exec_cld (s : State) : exec (.cld) s = .next (runImplied 0xD8 cldOp s) := rfl
theorem exec_cmpAbsY (w : Word) (s : State) : exec (.cmpAbsY w) s = .next (runRead 0xD9 (.absy w) cmpOp s) := rfl
theorem exec_phx (s : State) : exec (.phx) s = .next (runImplied 0xDA phxOp s) := rfl
theorem exec_cmpAbsX (w : Word) (s : State) : exec (.cmpAbsX w) s = .next (runRead 0xDD (.absx w) cmpOp s) := rfl
theorem exec_decAbsX (w : Word) (s : State) : exec (.decAbsX w) s = .next (runModify 0xDE (.absx w) decOp s) := rfl
theorem exec_cpxImm (b : Byte) (s : State) : exec (.cpxImm b) s = .next (runImm 0xE0 b cpxOp s) := rfl
theorem exec_sbcIndX (b : Byte) (s : State) : exec (.sbcIndX b) s = .next (runRead 0xE1 (.indx b) sbcOp s) := rfl
theorem exec_cpxZp (b : Byte) (s : State) : exec (.cpxZp b) s = .next (runRead 0xE4 (.zp b) cpxOp s) := rfl
theorem exec_sbcZp (b : Byte) (s : State) : exec (.sbcZp b) s = .next (runRead 0xE5 (.zp b) sbcOp s) := rfl
theorem exec_incZp (b : Byte) (s : State) : exec (.incZp b) s = .next (runModify 0xE6 (.zp b) incOp s) := rfl
theorem exec_inx (s : State) : exec (.inx) s = .next (runImplied 0xE8 inxOp s) := rfl
theorem exec_sbcImm (b : Byte) (s : State) : exec (.sbcImm b) s = .next (runImm 0xE9 b sbcOp s) := rfl
theorem exec_nop (s : State) : exec (.nop) s = .next (runImplied 0xEA nopOp s) := rfl
theorem exec_cpxAbs (w : Word) (s : State) : exec (.cpxAbs w) s = .next (runRead 0xEC (.abs w) cpxOp s) := rfl
theorem exec_sbcAbs (w : Word) (s : State) : exec (.sbcAbs w) s = .next (runRead 0xED (.abs w) sbcOp s) := rfl
theorem exec_incAbs (w : Word) (s : State) : exec (.incAbs w) s = .next (runModify 0xEE (.abs w) incOp s) := rfl
theorem exec_beq (b : Byte) (s : State) : exec (.beq b) s = .next (runAddr 0xF0 (.rel b) beqOp s) := rfl
theorem exec_sbcIndY (b : Byte) (s : State) : exec (.sbcIndY b) s = .next (runRead 0xF1 (.indy b) sbcOp s) := rfl
theorem exec_sbcZpX (b : Byte) (s : State) : exec (.sbcZpX b) s = .next (runRead 0xF5 (.zpx b) sbcOp s) := rfl
theorem exec_incZpX (b : Byte) (s : State) : exec (.incZpX b) s = .next (runModify 0xF6 (.zpx b) incOp s) := rfl
theorem exec_sed (s : State) : exec (.sed) s = .next (runImplied 0xF8 sedOp s) := rfl
theorem exec_sbcAbsY (w : Word) (s : State) : exec (.sbcAbsY w) s = .next (runRead 0xF9 (.absy w) sbcOp s) := rfl
theorem exec_plx (s : State) : exec (.plx) s = .next (runImplied 0xFA plxOp s) := rfl
theorem exec_sbcAbsX (w : Word) (s : State) : exec (.sbcAbsX w) s = .next (runRead 0xFD (.absx w) sbcOp s) := rfl
theorem exec_incAbsX (w : Word) (s : State) : exec (.incAbsX w) s = .next (runModify 0xFE (.absx w) incOp s) := rfl

/-- Every instruction answers a next state: no arm faults or refuses (R12, R300). -/
theorem exec_answers (i : Instr) (s : State) : ∃ t, exec i s = .next t := by
  cases i <;> exact ⟨_, rfl⟩

end Sys2Proof.Machine
end

