-- ==== Sys2Proof/Laws/Flags.lean ====
section
/-! SUPPORT. What each flag computation, shift and branch does, said once and as numbers, so that no later proof
unfolds them (R31, R36 of `10_state.md`, R171, R176 of `43_arithmetic_logic.md`, R191 to R196 of `44_shift_incdec.md`,
R210 of `45_branch_jump.md`). -/

namespace Sys2Proof.Machine

/-! ## Single bits as comparisons -/

theorem bit7_eq (r : Byte) : r.getLsbD 7 = decide (0x80 ≤ r.toNat) := by revert r; decide

theorem bit6_eq (r : Byte) : r.getLsbD 6 = decide (0x40 ≤ r.toNat % 128) := by revert r; decide

theorem bit0_eq (r : Byte) : r.getLsbD 0 = decide (r.toNat % 2 = 1) := by revert r; decide

/-! ## The flag computations -/

/-- `SetZN` writes two flags and nothing else. -/
theorem setZN_eq (v : Byte) (s : State) :
    setZN v s = { s with flags := { s.flags with z := decide (v = 0), n := decide (0x80 ≤ v.toNat) } } := by
  simp only [setZN, setN, setZ, bit7_eq]
  rfl

theorem adcResult_eq (m a : Byte) (c : Bool) :
    adcResult m a c = BitVec.ofNat 8 ((m.toNat + a.toNat + c.toNat) % 256) := by
  apply BitVec.eq_of_toNat_eq
  simp [adcResult, adcSum]

theorem adcOverflow_eq (m a : Byte) (c : Bool) :
    adcOverflow m a c = decide ((0x80 ≤ m.toNat ↔ 0x80 ≤ a.toNat) ∧
      ¬ (0x80 ≤ (adcResult m a c).toNat ↔ 0x80 ≤ a.toNat)) := by
  simp only [adcOverflow, bit7_eq]
  by_cases h1 : 0x80 ≤ m.toNat <;> by_cases h2 : 0x80 ≤ a.toNat <;>
    by_cases h3 : 0x80 ≤ (adcResult m a c).toNat <;> simp [h1, h2, h3]

/-- The adder writes `a` and four flags and nothing else. -/
theorem adcCore_eq (m : Byte) (s : State) :
    adcCore m s = { s with
      a := adcResult m s.a s.flags.c
      flags := { s.flags with
        c := adcCarry m s.a s.flags.c
        v := adcOverflow m s.a s.flags.c
        z := decide (adcResult m s.a s.flags.c = 0)
        n := decide (0x80 ≤ (adcResult m s.a s.flags.c).toNat) } } := by
  simp only [adcCore, setZN_eq]
  rfl

/-- A compare writes three flags and nothing else. -/
theorem compareWith_eq (r m : Byte) (s : State) :
    compareWith r m s = { s with flags := { s.flags with
      z := decide (r.toNat = m.toNat)
      c := decide (m.toNat ≤ r.toNat)
      n := decide (0x80 ≤ (r.toNat + 256 - m.toNat) % 256) } } := by
  have h1 : (r == m) = decide (r.toNat = m.toNat) := by
    rw [show (r == m) = decide (r = m) from rfl, decide_eq_decide, BitVec.toNat_eq]
  have h2 : (r - m).getLsbD 7 = decide (0x80 ≤ (r.toNat + 256 - m.toNat) % 256) := by
    have := m.isLt
    rw [bit7_eq, BitVec.toNat_sub, decide_eq_decide]
    omega
  simp only [compareWith, h1, h2, setN, setC, setZ]

/-! ## The results of the read-modify-write instructions -/

theorem aslResult_eq (m : Byte) : aslResult m = BitVec.ofNat 8 (2 * m.toNat % 256) := by revert m; decide

theorem lsrResult_eq (m : Byte) : lsrResult m = BitVec.ofNat 8 (m.toNat / 2) := by revert m; decide

theorem rolResult_eq (c : Bool) (m : Byte) : rolResult c m = BitVec.ofNat 8 ((2 * m.toNat + c.toNat) % 256) := by
  revert m c
  decide

theorem rorResult_eq (c : Bool) (m : Byte) : rorResult c m = BitVec.ofNat 8 (m.toNat / 2 + 128 * c.toNat) := by
  revert m c
  decide

theorem byte_inc_eq (m : Byte) : m + 1 = BitVec.ofNat 8 ((m.toNat + 1) % 256) := by revert m; decide

theorem byte_dec_eq (m : Byte) : m - 1 = BitVec.ofNat 8 ((m.toNat + 255) % 256) := by revert m; decide

/-- On the accumulator, a read-modify-write changes `a`, Z and N. -/
theorem modifyOperand_acc (f : Byte → Byte) (s : State) :
    modifyOperand f .acc s = setZN (f s.a) (setA (f s.a) s) := rfl

/-- On memory, it changes one byte, Z and N. -/
theorem modifyOperand_mem (f : Byte → Byte) (k : Word) (s : State) :
    modifyOperand f (.mem k) s = setZN (f (memRead s k)) (memWrite k (f (memRead s k)) s) := rfl

/-! ## Branches -/

theorem branch_taken (target : Word) (s : State) :
    branch true target s = { s with pc := target, bonus := s.bonus + takenBonus s.pc target } := rfl

theorem branch_not_taken (target : Word) (s : State) : branch false target s = s := rfl

end Sys2Proof.Machine
end

