-- ==== Sys2Proof/Laws/Memory.lean ====
section
/-! SUPPORT. The laws of the Memory Image: reading after a write, every other byte left alone, and the canonical form
kept (R50, R60, R62 of `20_memory.md`). -/

namespace Sys2Proof.Machine

theorem Memory.wfFrom_cons (low : Nat) (c : Host.Cell) (rest : Memory) :
    Memory.wfFrom low (c :: rest) = true ↔
      low ≤ c.1 ∧ c.1 < 65536 ∧ c.2 ≠ Memory.blank ∧ Memory.wfFrom (c.1 + 1) rest = true := by
  simp [Memory.wfFrom, and_assoc]

theorem Memory.wfFrom_mono {m : Memory} {low high : Nat} (h : Memory.wfFrom high m = true) (hle : low ≤ high) :
    Memory.wfFrom low m = true := by
  cases m with
  | nil => rfl
  | cons c rest =>
    rw [Memory.wfFrom_cons] at *
    exact ⟨hle.trans h.1, h.2⟩

/-- Below the first address that can be listed, every byte is blank. -/
theorem Memory.get_below {m : Memory} {low k : Nat} (h : Memory.wfFrom low m = true) (hk : k < low) :
    Memory.get m k = Memory.blank := by
  cases m with
  | nil => rfl
  | cons c rest => simp [Memory.get, show k < c.1 by have := ((Memory.wfFrom_cons ..).1 h).1; omega]

theorem Memory.wfFrom_set {m : Memory} {low k : Nat} (v : Byte) (h : Memory.wfFrom low m = true) (hl : low ≤ k)
    (hk : k < 65536) : Memory.wfFrom low (Memory.set m k v) = true := by
  induction m generalizing low with
  | nil =>
    unfold Memory.set
    split
    · rfl
    · simp [Memory.wfFrom, *]
  | cons c rest ih =>
    obtain ⟨h1, h2, h3, h4⟩ := (Memory.wfFrom_cons ..).1 h
    unfold Memory.set
    split
    · split
      · exact h
      · simp [Memory.wfFrom, *]
    · split
      · split
        · exact Memory.wfFrom_mono h4 (by omega)
        · simp [Memory.wfFrom, *]
      · simp [Memory.wfFrom, h1, h2, h3, ih h4 (by omega)]

/-- A write changes the byte it names and no other. -/
theorem Memory.get_set {m : Memory} {low k : Nat} (v : Byte) (j : Nat) (h : Memory.wfFrom low m = true)
    (hl : low ≤ k) : Memory.get (Memory.set m k v) j = if j = k then v else Memory.get m j := by
  induction m generalizing low with
  | nil =>
    unfold Memory.set
    split <;> rename_i hv
    · simp [Memory.get, hv]
    · simp only [Memory.get]
      split <;> split <;> first | rfl | omega
  | cons c rest ih =>
    obtain ⟨h1, -, -, h4⟩ := (Memory.wfFrom_cons ..).1 h
    unfold Memory.set
    split
    · split <;> rename_i hv
      · split
        · simp [Memory.get, hv, show j < c.1 by omega]
        · rfl
      · rcases lt_trichotomy j k with hj | hj | hj
        · simp [Memory.get, show j < k from hj, show j < c.1 by omega, show j ≠ k by omega]
        · simp [Memory.get, hj]
        · simp [Memory.get, show ¬ j < k by omega, show j ≠ k by omega]
    · split <;> rename_i hlt heq
      · subst heq
        split <;> rename_i hv
        · rcases lt_trichotomy j c.1 with hj | hj | hj
          · simp [Memory.get, hj, show j ≠ c.1 by omega, Memory.get_below h4 (show j < c.1 + 1 by omega)]
          · simp [hj, hv, Memory.get_below h4 (show c.1 < c.1 + 1 by omega)]
          · simp [Memory.get, show ¬ j < c.1 by omega, show j ≠ c.1 by omega]
        · rcases lt_trichotomy j c.1 with hj | hj | hj
          · simp [Memory.get, hj, show j ≠ c.1 by omega]
          · simp [Memory.get, hj]
          · simp [Memory.get, show ¬ j < c.1 by omega, show j ≠ c.1 by omega]
      · simp only [Memory.get, ih h4 (show c.1 + 1 ≤ k by omega)]
        by_cases hj : j = k
        · simp [hj, show ¬ k < c.1 by omega, heq]
        · simp [hj]

/-- Every write keeps the canonical form. -/
theorem Memory.wf_set {m : Memory} (k : Word) (v : Byte) (h : Memory.wf m = true) :
    Memory.wf (Memory.set m k.toNat v) = true :=
  Memory.wfFrom_set v h (Nat.zero_le _) k.isLt

/-- The memory right after reset has the form. -/
theorem Memory.wf_reset : Memory.wf State.reset.mem = true := rfl

/-- Two canonical images with the same bytes are the same list. -/
theorem Memory.ext_of_wfFrom {m n : Memory} {low : Nat} (hm : Memory.wfFrom low m = true)
    (hn : Memory.wfFrom low n = true) (h : ∀ k, Memory.get m k = Memory.get n k) : m = n := by
  induction m generalizing low n with
  | nil =>
    cases n with
    | nil => rfl
    | cons d rest =>
      have := ((Memory.wfFrom_cons ..).1 hn).2.2.1
      exact absurd (by simpa [Memory.get] using h d.1) (Ne.symm this)
  | cons c rest ih =>
    obtain ⟨-, -, c3, c4⟩ := (Memory.wfFrom_cons ..).1 hm
    cases n with
    | nil => exact absurd (by simpa [Memory.get] using h c.1) c3
    | cons d rest' =>
      obtain ⟨-, -, d3, d4⟩ := (Memory.wfFrom_cons ..).1 hn
      have hc := h c.1
      have hd := h d.1
      have hkey : c.1 = d.1 := by
        rcases lt_trichotomy c.1 d.1 with hlt | heq | hgt
        · simp [Memory.get, hlt] at hc
          exact absurd hc c3
        · exact heq
        · simp [Memory.get, hgt] at hd
          exact absurd hd.symm d3
      have hval : c.2 = d.2 := by simpa [Memory.get, hkey] using hc
      have hcell : c = d := Prod.ext hkey hval
      subst hcell
      congr 1
      refine ih c4 d4 fun k => ?_
      by_cases hk : k < c.1 + 1
      · rw [Memory.get_below c4 hk, Memory.get_below d4 hk]
      · simpa [Memory.get, show ¬ k < c.1 by omega, show k ≠ c.1 by omega] using h k

theorem memRead_memWrite (s : State) (addr other : Word) (v : Byte) (h : Memory.wf s.mem = true) :
    memRead (memWrite addr v s) other = if other = addr then v else memRead s other := by
  simp only [memRead, memWrite, Memory.get_set v other.toNat h (Nat.zero_le _), BitVec.toNat_eq]

theorem memRead_memWrite_same (s : State) (addr : Word) (v : Byte) (h : Memory.wf s.mem = true) :
    memRead (memWrite addr v s) addr = v := by simp [memRead_memWrite _ _ _ _ h]

theorem memRead_memWrite_other (s : State) {addr other : Word} (v : Byte) (h : Memory.wf s.mem = true)
    (hne : other ≠ addr) : memRead (memWrite addr v s) other = memRead s other := by
  simp [memRead_memWrite _ _ _ _ h, hne]

theorem memWrite_wf {s : State} (addr : Word) (v : Byte) (h : Memory.wf s.mem = true) :
    Memory.wf (memWrite addr v s).mem = true := Memory.wf_set addr v h

end Sys2Proof.Machine
end

