-- ==== Sys2Proof/Laws/Ops.lean ====
section
/-! SUPPORT. What each shared operation can do, said once: the stack cells, the shapes of an instruction, and the
canonical form of memory. -/

namespace Sys2Proof.Machine

/-! ## The stack page -/

/-- Every stack cell lies in 0x0100..0x01FF (R24, R240). -/
theorem toNat_stackAddr (sp : Byte) : (stackAddr sp).toNat = 0x100 + sp.toNat := by
  have := sp.isLt
  have : (0x0100 : Word).toNat = 0x100 := rfl
  simp only [stackAddr, BitVec.toNat_add, toNat_zext16]
  omega

theorem stackAddr_inj {p q : Byte} (h : stackAddr p = stackAddr q) : p = q := by
  apply BitVec.eq_of_toNat_eq
  have := congrArg BitVec.toNat h
  simp only [toNat_stackAddr] at this
  omega

/-- A push is a store to the cell `sp` names and a decrement (R240). -/
theorem push_eq (v : Byte) (s : State) : push v s = setSp (s.sp - 1) (memWrite (stackAddr s.sp) v s) := rfl

theorem memRead_push (v : Byte) (s : State) (k : Word) (h : Memory.wf s.mem = true) :
    memRead (push v s) k = if k = stackAddr s.sp then v else memRead s k := by
  rw [push_eq, memRead_setSp, memRead_memWrite _ _ _ _ h]

/-! ## The shapes of an instruction (R123, lines 6 to 10) -/

theorem enter_eq (op : Byte) (m : AddrMode) (s : State) :
    enter op m s = { s with
      pc := s.pc + BitVec.ofNat 16 m.length
      bonus := s.bonus + if crossed m s && paysCrossing s.cfg op then 1 else 0 } := by
  simp only [enter, crossingBonus_eq]
  rfl

theorem advance_eq (len : Nat) (s : State) : advance len s = { s with pc := s.pc + BitVec.ofNat 16 len } := rfl

theorem rearm_eq (op : Byte) (s : State) :
    rearm op s = { s with cyc := baseCycles s.cfg op + s.bonus - s.cfg.tickBias.val } := rfl

/-! ## The canonical form of memory (R50) -/

theorem push_wf {s : State} (v : Byte) (h : Memory.wf s.mem = true) : Memory.wf (push v s).mem = true :=
  Memory.wf_set _ _ h

theorem opWrite_wf {s : State} (ea : EA) (v : Byte) (h : Memory.wf s.mem = true) :
    Memory.wf (opWrite ea v s).mem = true := by
  cases ea with
  | acc => exact h
  | mem k => exact Memory.wf_set _ _ h

theorem enter_wf {s : State} (op : Byte) (m : AddrMode) (h : Memory.wf s.mem = true) :
    Memory.wf (enter op m s).mem = true := by rwa [enter_mem]

/-! ## Ticks (R120) -/

theorem halted_iff (s : State) : halted s = true ↔ s.brkHalt = true ∨ s.illegal = true := by simp [halted]

theorem not_halted_iff (s : State) : halted s = false ↔ s.brkHalt = false ∧ s.illegal = false := by simp [halted]

end Sys2Proof.Machine
end

