-- ==== Sys2Proof/Laws/PerInstr.lean ====
section
/-! SUPPORT. The family `OpcodeRow`: the table's row for an instruction's opcode byte has the instruction's mode and
group, and completes the bytes after the opcode to that instruction (R83, R85, R93). One lemma for each constructor. -/

namespace Sys2Proof

open Machine

/-- `{hi w, lo w} = w` (R7, R82). -/
theorem Machine.cat_hi_lo (w : Word) : cat (hi w) (lo w) = w := by
  apply BitVec.eq_of_toNat_eq
  have := w.isLt
  simp only [cat, hi, lo, BitVec.toNat_ofNat]
  omega

/-- The row of the instruction's opcode says what the instruction is. -/
def Laws.OpcodeRow.Statement (i : Instr) : Prop :=
  ∃ r, lookup (opcodeOf i) = some r ∧ r.opcode = opcodeOf i ∧ r.mode = i.mode ∧ r.group = i.group ∧
    ∀ rest, r.form.assemble ((encode i).tail ++ rest) = some (i, rest)

namespace Laws.OpcodeRow

theorem brk : Statement (.brk) :=
  ⟨⟨0x00, .imp, 7, false, .base, .f0 .brk⟩, (rfl : lookup 0x00 = some _), rfl, rfl, rfl, fun _ => rfl⟩
theorem oraIndX (b : Byte) : Statement (.oraIndX b) :=
  ⟨⟨0x01, .indx, 6, false, .base, .f1 .oraIndX⟩, (rfl : lookup 0x01 = some _), rfl, rfl, rfl, fun _ => rfl⟩
theorem tsbZp (b : Byte) : Statement (.tsbZp b) :=
  ⟨⟨0x04, .zp, 5, false, .c02Optional, .f1 .tsbZp⟩, (rfl : lookup 0x04 = some _), rfl, rfl, rfl, fun _ => rfl⟩
theorem oraZp (b : Byte) : Statement (.oraZp b) :=
  ⟨⟨0x05, .zp, 3, false, .base, .f1 .oraZp⟩, (rfl : lookup 0x05 = some _), rfl, rfl, rfl, fun _ => rfl⟩
theorem aslZp (b : Byte) : Statement (.aslZp b) :=
  ⟨⟨0x06, .zp, 5, false, .base, .f1 .aslZp⟩, (rfl : lookup 0x06 = some _), rfl, rfl, rfl, fun _ => rfl⟩
theorem php : Statement (.php) :=
  ⟨⟨0x08, .imp, 3, false, .base, .f0 .php⟩, (rfl : lookup 0x08 = some _), rfl, rfl, rfl, fun _ => rfl⟩
theorem oraImm (b : Byte) : Statement (.oraImm b) :=
  ⟨⟨0x09, .imm, 2, false, .base, .f1 .oraImm⟩, (rfl : lookup 0x09 = some _), rfl, rfl, rfl, fun _ => rfl⟩
theorem aslA : Statement (.aslA) :=
  ⟨⟨0x0A, .acc, 2, false, .base, .f0 .aslA⟩, (rfl : lookup 0x0A = some _), rfl, rfl, rfl, fun _ => rfl⟩
theorem tsbAbs (w : Word) : Statement (.tsbAbs w) :=
  ⟨⟨0x0C, .abs, 6, false, .c02Optional, .f2 .tsbAbs⟩, (rfl : lookup 0x0C = some _), rfl, rfl, rfl, fun rest => congrArg (fun v => some (Instr.tsbAbs v, rest)) (cat_hi_lo w)⟩
theorem oraAbs (w : Word) : Statement (.oraAbs w) :=
  ⟨⟨0x0D, .abs, 4, false, .base, .f2 .oraAbs⟩, (rfl : lookup 0x0D = some _), rfl, rfl, rfl, fun rest => congrArg (fun v => some (Instr.oraAbs v, rest)) (cat_hi_lo w)⟩
theorem aslAbs (w : Word) : Statement (.aslAbs w) :=
  ⟨⟨0x0E, .abs, 6, false, .base, .f2 .aslAbs⟩, (rfl : lookup 0x0E = some _), rfl, rfl, rfl, fun rest => congrArg (fun v => some (Instr.aslAbs v, rest)) (cat_hi_lo w)⟩
theorem bpl (b : Byte) : Statement (.bpl b) :=
  ⟨⟨0x10, .rel, 2, false, .base, .f1 .bpl⟩, (rfl : lookup 0x10 = some _), rfl, rfl, rfl, fun _ => rfl⟩
theorem oraIndY (b : Byte) : Statement (.oraIndY b) :=
  ⟨⟨0x11, .indy, 5, true, .base, .f1 .oraIndY⟩, (rfl : lookup 0x11 = some _), rfl, rfl, rfl, fun _ => rfl⟩
theorem trbZp (b : Byte) : Statement (.trbZp b) :=
  ⟨⟨0x14, .zp, 5, false, .c02Optional, .f1 .trbZp⟩, (rfl : lookup 0x14 = some _), rfl, rfl, rfl, fun _ => rfl⟩
theorem oraZpX (b : Byte) : Statement (.oraZpX b) :=
  ⟨⟨0x15, .zpx, 4, false, .base, .f1 .oraZpX⟩, (rfl : lookup 0x15 = some _), rfl, rfl, rfl, fun _ => rfl⟩
theorem aslZpX (b : Byte) : Statement (.aslZpX b) :=
  ⟨⟨0x16, .zpx, 6, false, .base, .f1 .aslZpX⟩, (rfl : lookup 0x16 = some _), rfl, rfl, rfl, fun _ => rfl⟩
theorem clc : Statement (.clc) :=
  ⟨⟨0x18, .imp, 2, false, .base, .f0 .clc⟩, (rfl : lookup 0x18 = some _), rfl, rfl, rfl, fun _ => rfl⟩
theorem oraAbsY (w : Word) : Statement (.oraAbsY w) :=
  ⟨⟨0x19, .absy, 4, true, .base, .f2 .oraAbsY⟩, (rfl : lookup 0x19 = some _), rfl, rfl, rfl, fun rest => congrArg (fun v => some (Instr.oraAbsY v, rest)) (cat_hi_lo w)⟩
theorem incA : Statement (.incA) :=
  ⟨⟨0x1A, .acc, 2, false, .c02Optional, .f0 .incA⟩, (rfl : lookup 0x1A = some _), rfl, rfl, rfl, fun _ => rfl⟩
theorem trbAbs (w : Word) : Statement (.trbAbs w) :=
  ⟨⟨0x1C, .abs, 6, false, .c02Optional, .f2 .trbAbs⟩, (rfl : lookup 0x1C = some _), rfl, rfl, rfl, fun rest => congrArg (fun v => some (Instr.trbAbs v, rest)) (cat_hi_lo w)⟩
theorem oraAbsX (w : Word) : Statement (.oraAbsX w) :=
  ⟨⟨0x1D, .absx, 4, true, .base, .f2 .oraAbsX⟩, (rfl : lookup 0x1D = some _), rfl, rfl, rfl, fun rest => congrArg (fun v => some (Instr.oraAbsX v, rest)) (cat_hi_lo w)⟩
theorem aslAbsX (w : Word) : Statement (.aslAbsX w) :=
  ⟨⟨0x1E, .absx, 7, false, .base, .f2 .aslAbsX⟩, (rfl : lookup 0x1E = some _), rfl, rfl, rfl, fun rest => congrArg (fun v => some (Instr.aslAbsX v, rest)) (cat_hi_lo w)⟩
theorem jsr (w : Word) : Statement (.jsr w) :=
  ⟨⟨0x20, .abs, 6, false, .base, .f2 .jsr⟩, (rfl : lookup 0x20 = some _), rfl, rfl, rfl, fun rest => congrArg (fun v => some (Instr.jsr v, rest)) (cat_hi_lo w)⟩
theorem andIndX (b : Byte) : Statement (.andIndX b) :=
  ⟨⟨0x21, .indx, 6, false, .base, .f1 .andIndX⟩, (rfl : lookup 0x21 = some _), rfl, rfl, rfl, fun _ => rfl⟩
theorem bitZp (b : Byte) : Statement (.bitZp b) :=
  ⟨⟨0x24, .zp, 3, false, .base, .f1 .bitZp⟩, (rfl : lookup 0x24 = some _), rfl, rfl, rfl, fun _ => rfl⟩
theorem andZp (b : Byte) : Statement (.andZp b) :=
  ⟨⟨0x25, .zp, 3, false, .base, .f1 .andZp⟩, (rfl : lookup 0x25 = some _), rfl, rfl, rfl, fun _ => rfl⟩
theorem rolZp (b : Byte) : Statement (.rolZp b) :=
  ⟨⟨0x26, .zp, 5, false, .base, .f1 .rolZp⟩, (rfl : lookup 0x26 = some _), rfl, rfl, rfl, fun _ => rfl⟩
theorem plp : Statement (.plp) :=
  ⟨⟨0x28, .imp, 4, false, .base, .f0 .plp⟩, (rfl : lookup 0x28 = some _), rfl, rfl, rfl, fun _ => rfl⟩
theorem andImm (b : Byte) : Statement (.andImm b) :=
  ⟨⟨0x29, .imm, 2, false, .base, .f1 .andImm⟩, (rfl : lookup 0x29 = some _), rfl, rfl, rfl, fun _ => rfl⟩
theorem rolA : Statement (.rolA) :=
  ⟨⟨0x2A, .acc, 2, false, .base, .f0 .rolA⟩, (rfl : lookup 0x2A = some _), rfl, rfl, rfl, fun _ => rfl⟩
theorem bitAbs (w : Word) : Statement (.bitAbs w) :=
  ⟨⟨0x2C, .abs, 4, false, .base, .f2 .bitAbs⟩, (rfl : lookup 0x2C = some _), rfl, rfl, rfl, fun rest => congrArg (fun v => some (Instr.bitAbs v, rest)) (cat_hi_lo w)⟩
theorem andAbs (w : Word) : Statement (.andAbs w) :=
  ⟨⟨0x2D, .abs, 4, false, .base, .f2 .andAbs⟩, (rfl : lookup 0x2D = some _), rfl, rfl, rfl, fun rest => congrArg (fun v => some (Instr.andAbs v, rest)) (cat_hi_lo w)⟩
theorem rolAbs (w : Word) : Statement (.rolAbs w) :=
  ⟨⟨0x2E, .abs, 6, false, .base, .f2 .rolAbs⟩, (rfl : lookup 0x2E = some _), rfl, rfl, rfl, fun rest => congrArg (fun v => some (Instr.rolAbs v, rest)) (cat_hi_lo w)⟩
theorem bmi (b : Byte) : Statement (.bmi b) :=
  ⟨⟨0x30, .rel, 2, false, .base, .f1 .bmi⟩, (rfl : lookup 0x30 = some _), rfl, rfl, rfl, fun _ => rfl⟩
theorem andIndY (b : Byte) : Statement (.andIndY b) :=
  ⟨⟨0x31, .indy, 5, true, .base, .f1 .andIndY⟩, (rfl : lookup 0x31 = some _), rfl, rfl, rfl, fun _ => rfl⟩
theorem bitZpX (b : Byte) : Statement (.bitZpX b) :=
  ⟨⟨0x34, .zpx, 4, false, .c02Optional, .f1 .bitZpX⟩, (rfl : lookup 0x34 = some _), rfl, rfl, rfl, fun _ => rfl⟩
theorem andZpX (b : Byte) : Statement (.andZpX b) :=
  ⟨⟨0x35, .zpx, 4, false, .base, .f1 .andZpX⟩, (rfl : lookup 0x35 = some _), rfl, rfl, rfl, fun _ => rfl⟩
theorem rolZpX (b : Byte) : Statement (.rolZpX b) :=
  ⟨⟨0x36, .zpx, 6, false, .base, .f1 .rolZpX⟩, (rfl : lookup 0x36 = some _), rfl, rfl, rfl, fun _ => rfl⟩
theorem sec : Statement (.sec) :=
  ⟨⟨0x38, .imp, 2, false, .base, .f0 .sec⟩, (rfl : lookup 0x38 = some _), rfl, rfl, rfl, fun _ => rfl⟩
theorem andAbsY (w : Word) : Statement (.andAbsY w) :=
  ⟨⟨0x39, .absy, 4, true, .base, .f2 .andAbsY⟩, (rfl : lookup 0x39 = some _), rfl, rfl, rfl, fun rest => congrArg (fun v => some (Instr.andAbsY v, rest)) (cat_hi_lo w)⟩
theorem decA : Statement (.decA) :=
  ⟨⟨0x3A, .acc, 2, false, .c02Optional, .f0 .decA⟩, (rfl : lookup 0x3A = some _), rfl, rfl, rfl, fun _ => rfl⟩
theorem bitAbsX (w : Word) : Statement (.bitAbsX w) :=
  ⟨⟨0x3C, .absx, 4, true, .c02Optional, .f2 .bitAbsX⟩, (rfl : lookup 0x3C = some _), rfl, rfl, rfl, fun rest => congrArg (fun v => some (Instr.bitAbsX v, rest)) (cat_hi_lo w)⟩
theorem andAbsX (w : Word) : Statement (.andAbsX w) :=
  ⟨⟨0x3D, .absx, 4, true, .base, .f2 .andAbsX⟩, (rfl : lookup 0x3D = some _), rfl, rfl, rfl, fun rest => congrArg (fun v => some (Instr.andAbsX v, rest)) (cat_hi_lo w)⟩
theorem rolAbsX (w : Word) : Statement (.rolAbsX w) :=
  ⟨⟨0x3E, .absx, 7, false, .base, .f2 .rolAbsX⟩, (rfl : lookup 0x3E = some _), rfl, rfl, rfl, fun rest => congrArg (fun v => some (Instr.rolAbsX v, rest)) (cat_hi_lo w)⟩
theorem rti : Statement (.rti) :=
  ⟨⟨0x40, .imp, 6, false, .base, .f0 .rti⟩, (rfl : lookup 0x40 = some _), rfl, rfl, rfl, fun _ => rfl⟩
theorem eorIndX (b : Byte) : Statement (.eorIndX b) :=
  ⟨⟨0x41, .indx, 6, false, .base, .f1 .eorIndX⟩, (rfl : lookup 0x41 = some _), rfl, rfl, rfl, fun _ => rfl⟩
theorem eorZp (b : Byte) : Statement (.eorZp b) :=
  ⟨⟨0x45, .zp, 3, false, .base, .f1 .eorZp⟩, (rfl : lookup 0x45 = some _), rfl, rfl, rfl, fun _ => rfl⟩
theorem lsrZp (b : Byte) : Statement (.lsrZp b) :=
  ⟨⟨0x46, .zp, 5, false, .base, .f1 .lsrZp⟩, (rfl : lookup 0x46 = some _), rfl, rfl, rfl, fun _ => rfl⟩
theorem pha : Statement (.pha) :=
  ⟨⟨0x48, .imp, 3, false, .base, .f0 .pha⟩, (rfl : lookup 0x48 = some _), rfl, rfl, rfl, fun _ => rfl⟩
theorem eorImm (b : Byte) : Statement (.eorImm b) :=
  ⟨⟨0x49, .imm, 2, false, .base, .f1 .eorImm⟩, (rfl : lookup 0x49 = some _), rfl, rfl, rfl, fun _ => rfl⟩
theorem lsrA : Statement (.lsrA) :=
  ⟨⟨0x4A, .acc, 2, false, .base, .f0 .lsrA⟩, (rfl : lookup 0x4A = some _), rfl, rfl, rfl, fun _ => rfl⟩
theorem jmpAbs (w : Word) : Statement (.jmpAbs w) :=
  ⟨⟨0x4C, .abs, 3, false, .base, .f2 .jmpAbs⟩, (rfl : lookup 0x4C = some _), rfl, rfl, rfl, fun rest => congrArg (fun v => some (Instr.jmpAbs v, rest)) (cat_hi_lo w)⟩
theorem eorAbs (w : Word) : Statement (.eorAbs w) :=
  ⟨⟨0x4D, .abs, 4, false, .base, .f2 .eorAbs⟩, (rfl : lookup 0x4D = some _), rfl, rfl, rfl, fun rest => congrArg (fun v => some (Instr.eorAbs v, rest)) (cat_hi_lo w)⟩
theorem lsrAbs (w : Word) : Statement (.lsrAbs w) :=
  ⟨⟨0x4E, .abs, 6, false, .base, .f2 .lsrAbs⟩, (rfl : lookup 0x4E = some _), rfl, rfl, rfl, fun rest => congrArg (fun v => some (Instr.lsrAbs v, rest)) (cat_hi_lo w)⟩
theorem bvc (b : Byte) : Statement (.bvc b) :=
  ⟨⟨0x50, .rel, 2, false, .base, .f1 .bvc⟩, (rfl : lookup 0x50 = some _), rfl, rfl, rfl, fun _ => rfl⟩
theorem eorIndY (b : Byte) : Statement (.eorIndY b) :=
  ⟨⟨0x51, .indy, 5, true, .base, .f1 .eorIndY⟩, (rfl : lookup 0x51 = some _), rfl, rfl, rfl, fun _ => rfl⟩
theorem eorZpX (b : Byte) : Statement (.eorZpX b) :=
  ⟨⟨0x55, .zpx, 4, false, .base, .f1 .eorZpX⟩, (rfl : lookup 0x55 = some _), rfl, rfl, rfl, fun _ => rfl⟩
theorem lsrZpX (b : Byte) : Statement (.lsrZpX b) :=
  ⟨⟨0x56, .zpx, 6, false, .base, .f1 .lsrZpX⟩, (rfl : lookup 0x56 = some _), rfl, rfl, rfl, fun _ => rfl⟩
theorem cli : Statement (.cli) :=
  ⟨⟨0x58, .imp, 2, false, .base, .f0 .cli⟩, (rfl : lookup 0x58 = some _), rfl, rfl, rfl, fun _ => rfl⟩
theorem eorAbsY (w : Word) : Statement (.eorAbsY w) :=
  ⟨⟨0x59, .absy, 4, true, .base, .f2 .eorAbsY⟩, (rfl : lookup 0x59 = some _), rfl, rfl, rfl, fun rest => congrArg (fun v => some (Instr.eorAbsY v, rest)) (cat_hi_lo w)⟩
theorem phy : Statement (.phy) :=
  ⟨⟨0x5A, .imp, 3, false, .c02Named, .f0 .phy⟩, (rfl : lookup 0x5A = some _), rfl, rfl, rfl, fun _ => rfl⟩
theorem eorAbsX (w : Word) : Statement (.eorAbsX w) :=
  ⟨⟨0x5D, .absx, 4, true, .base, .f2 .eorAbsX⟩, (rfl : lookup 0x5D = some _), rfl, rfl, rfl, fun rest => congrArg (fun v => some (Instr.eorAbsX v, rest)) (cat_hi_lo w)⟩
theorem lsrAbsX (w : Word) : Statement (.lsrAbsX w) :=
  ⟨⟨0x5E, .absx, 7, false, .base, .f2 .lsrAbsX⟩, (rfl : lookup 0x5E = some _), rfl, rfl, rfl, fun rest => congrArg (fun v => some (Instr.lsrAbsX v, rest)) (cat_hi_lo w)⟩
theorem rts : Statement (.rts) :=
  ⟨⟨0x60, .imp, 6, false, .base, .f0 .rts⟩, (rfl : lookup 0x60 = some _), rfl, rfl, rfl, fun _ => rfl⟩
theorem adcIndX (b : Byte) : Statement (.adcIndX b) :=
  ⟨⟨0x61, .indx, 6, false, .base, .f1 .adcIndX⟩, (rfl : lookup 0x61 = some _), rfl, rfl, rfl, fun _ => rfl⟩
theorem stzZp (b : Byte) : Statement (.stzZp b) :=
  ⟨⟨0x64, .zp, 3, false, .c02Optional, .f1 .stzZp⟩, (rfl : lookup 0x64 = some _), rfl, rfl, rfl, fun _ => rfl⟩
theorem adcZp (b : Byte) : Statement (.adcZp b) :=
  ⟨⟨0x65, .zp, 3, false, .base, .f1 .adcZp⟩, (rfl : lookup 0x65 = some _), rfl, rfl, rfl, fun _ => rfl⟩
theorem rorZp (b : Byte) : Statement (.rorZp b) :=
  ⟨⟨0x66, .zp, 5, false, .base, .f1 .rorZp⟩, (rfl : lookup 0x66 = some _), rfl, rfl, rfl, fun _ => rfl⟩
theorem pla : Statement (.pla) :=
  ⟨⟨0x68, .imp, 4, false, .base, .f0 .pla⟩, (rfl : lookup 0x68 = some _), rfl, rfl, rfl, fun _ => rfl⟩
theorem adcImm (b : Byte) : Statement (.adcImm b) :=
  ⟨⟨0x69, .imm, 2, false, .base, .f1 .adcImm⟩, (rfl : lookup 0x69 = some _), rfl, rfl, rfl, fun _ => rfl⟩
theorem rorA : Statement (.rorA) :=
  ⟨⟨0x6A, .acc, 2, false, .base, .f0 .rorA⟩, (rfl : lookup 0x6A = some _), rfl, rfl, rfl, fun _ => rfl⟩
theorem jmpInd (w : Word) : Statement (.jmpInd w) :=
  ⟨⟨0x6C, .ind, 5, false, .base, .f2 .jmpInd⟩, (rfl : lookup 0x6C = some _), rfl, rfl, rfl, fun rest => congrArg (fun v => some (Instr.jmpInd v, rest)) (cat_hi_lo w)⟩
theorem adcAbs (w : Word) : Statement (.adcAbs w) :=
  ⟨⟨0x6D, .abs, 4, false, .base, .f2 .adcAbs⟩, (rfl : lookup 0x6D = some _), rfl, rfl, rfl, fun rest => congrArg (fun v => some (Instr.adcAbs v, rest)) (cat_hi_lo w)⟩
theorem rorAbs (w : Word) : Statement (.rorAbs w) :=
  ⟨⟨0x6E, .abs, 6, false, .base, .f2 .rorAbs⟩, (rfl : lookup 0x6E = some _), rfl, rfl, rfl, fun rest => congrArg (fun v => some (Instr.rorAbs v, rest)) (cat_hi_lo w)⟩
theorem bvs (b : Byte) : Statement (.bvs b) :=
  ⟨⟨0x70, .rel, 2, false, .base, .f1 .bvs⟩, (rfl : lookup 0x70 = some _), rfl, rfl, rfl, fun _ => rfl⟩
theorem adcIndY (b : Byte) : Statement (.adcIndY b) :=
  ⟨⟨0x71, .indy, 5, true, .base, .f1 .adcIndY⟩, (rfl : lookup 0x71 = some _), rfl, rfl, rfl, fun _ => rfl⟩
theorem stzZpX (b : Byte) : Statement (.stzZpX b) :=
  ⟨⟨0x74, .zpx, 4, false, .c02Optional, .f1 .stzZpX⟩, (rfl : lookup 0x74 = some _), rfl, rfl, rfl, fun _ => rfl⟩
theorem adcZpX (b : Byte) : Statement (.adcZpX b) :=
  ⟨⟨0x75, .zpx, 4, false, .base, .f1 .adcZpX⟩, (rfl : lookup 0x75 = some _), rfl, rfl, rfl, fun _ => rfl⟩
theorem rorZpX (b : Byte) : Statement (.rorZpX b) :=
  ⟨⟨0x76, .zpx, 6, false, .base, .f1 .rorZpX⟩, (rfl : lookup 0x76 = some _), rfl, rfl, rfl, fun _ => rfl⟩
theorem sei : Statement (.sei) :=
  ⟨⟨0x78, .imp, 2, false, .base, .f0 .sei⟩, (rfl : lookup 0x78 = some _), rfl, rfl, rfl, fun _ => rfl⟩
theorem adcAbsY (w : Word) : Statement (.adcAbsY w) :=
  ⟨⟨0x79, .absy, 4, true, .base, .f2 .adcAbsY⟩, (rfl : lookup 0x79 = some _), rfl, rfl, rfl, fun rest => congrArg (fun v => some (Instr.adcAbsY v, rest)) (cat_hi_lo w)⟩
theorem ply : Statement (.ply) :=
  ⟨⟨0x7A, .imp, 4, false, .c02Named, .f0 .ply⟩, (rfl : lookup 0x7A = some _), rfl, rfl, rfl, fun _ => rfl⟩
theorem jmpIndAbsX (w : Word) : Statement (.jmpIndAbsX w) :=
  ⟨⟨0x7C, .indabsx, 6, false, .c02Named, .f2 .jmpIndAbsX⟩, (rfl : lookup 0x7C = some _), rfl, rfl, rfl, fun rest => congrArg (fun v => some (Instr.jmpIndAbsX v, rest)) (cat_hi_lo w)⟩
theorem adcAbsX (w : Word) : Statement (.adcAbsX w) :=
  ⟨⟨0x7D, .absx, 4, true, .base, .f2 .adcAbsX⟩, (rfl : lookup 0x7D = some _), rfl, rfl, rfl, fun rest => congrArg (fun v => some (Instr.adcAbsX v, rest)) (cat_hi_lo w)⟩
theorem rorAbsX (w : Word) : Statement (.rorAbsX w) :=
  ⟨⟨0x7E, .absx, 7, false, .base, .f2 .rorAbsX⟩, (rfl : lookup 0x7E = some _), rfl, rfl, rfl, fun rest => congrArg (fun v => some (Instr.rorAbsX v, rest)) (cat_hi_lo w)⟩
theorem bra (b : Byte) : Statement (.bra b) :=
  ⟨⟨0x80, .rel, 2, false, .c02Optional, .f1 .bra⟩, (rfl : lookup 0x80 = some _), rfl, rfl, rfl, fun _ => rfl⟩
theorem staIndX (b : Byte) : Statement (.staIndX b) :=
  ⟨⟨0x81, .indx, 6, false, .base, .f1 .staIndX⟩, (rfl : lookup 0x81 = some _), rfl, rfl, rfl, fun _ => rfl⟩
theorem styZp (b : Byte) : Statement (.styZp b) :=
  ⟨⟨0x84, .zp, 3, false, .base, .f1 .styZp⟩, (rfl : lookup 0x84 = some _), rfl, rfl, rfl, fun _ => rfl⟩
theorem staZp (b : Byte) : Statement (.staZp b) :=
  ⟨⟨0x85, .zp, 3, false, .base, .f1 .staZp⟩, (rfl : lookup 0x85 = some _), rfl, rfl, rfl, fun _ => rfl⟩
theorem stxZp (b : Byte) : Statement (.stxZp b) :=
  ⟨⟨0x86, .zp, 3, false, .base, .f1 .stxZp⟩, (rfl : lookup 0x86 = some _), rfl, rfl, rfl, fun _ => rfl⟩
theorem dey : Statement (.dey) :=
  ⟨⟨0x88, .imp, 2, false, .base, .f0 .dey⟩, (rfl : lookup 0x88 = some _), rfl, rfl, rfl, fun _ => rfl⟩
theorem bitImm (b : Byte) : Statement (.bitImm b) :=
  ⟨⟨0x89, .imm, 2, false, .c02Optional, .f1 .bitImm⟩, (rfl : lookup 0x89 = some _), rfl, rfl, rfl, fun _ => rfl⟩
theorem txa : Statement (.txa) :=
  ⟨⟨0x8A, .imp, 2, false, .base, .f0 .txa⟩, (rfl : lookup 0x8A = some _), rfl, rfl, rfl, fun _ => rfl⟩
theorem styAbs (w : Word) : Statement (.styAbs w) :=
  ⟨⟨0x8C, .abs, 4, false, .base, .f2 .styAbs⟩, (rfl : lookup 0x8C = some _), rfl, rfl, rfl, fun rest => congrArg (fun v => some (Instr.styAbs v, rest)) (cat_hi_lo w)⟩
theorem staAbs (w : Word) : Statement (.staAbs w) :=
  ⟨⟨0x8D, .abs, 4, false, .base, .f2 .staAbs⟩, (rfl : lookup 0x8D = some _), rfl, rfl, rfl, fun rest => congrArg (fun v => some (Instr.staAbs v, rest)) (cat_hi_lo w)⟩
theorem stxAbs (w : Word) : Statement (.stxAbs w) :=
  ⟨⟨0x8E, .abs, 4, false, .base, .f2 .stxAbs⟩, (rfl : lookup 0x8E = some _), rfl, rfl, rfl, fun rest => congrArg (fun v => some (Instr.stxAbs v, rest)) (cat_hi_lo w)⟩
theorem bcc (b : Byte) : Statement (.bcc b) :=
  ⟨⟨0x90, .rel, 2, false, .base, .f1 .bcc⟩, (rfl : lookup 0x90 = some _), rfl, rfl, rfl, fun _ => rfl⟩
theorem staIndY (b : Byte) : Statement (.staIndY b) :=
  ⟨⟨0x91, .indy, 6, false, .base, .f1 .staIndY⟩, (rfl : lookup 0x91 = some _), rfl, rfl, rfl, fun _ => rfl⟩
theorem styZpX (b : Byte) : Statement (.styZpX b) :=
  ⟨⟨0x94, .zpx, 4, false, .base, .f1 .styZpX⟩, (rfl : lookup 0x94 = some _), rfl, rfl, rfl, fun _ => rfl⟩
theorem staZpX (b : Byte) : Statement (.staZpX b) :=
  ⟨⟨0x95, .zpx, 4, false, .base, .f1 .staZpX⟩, (rfl : lookup 0x95 = some _), rfl, rfl, rfl, fun _ => rfl⟩
theorem stxZpY (b : Byte) : Statement (.stxZpY b) :=
  ⟨⟨0x96, .zpy, 4, false, .base, .f1 .stxZpY⟩, (rfl : lookup 0x96 = some _), rfl, rfl, rfl, fun _ => rfl⟩
theorem tya : Statement (.tya) :=
  ⟨⟨0x98, .imp, 2, false, .base, .f0 .tya⟩, (rfl : lookup 0x98 = some _), rfl, rfl, rfl, fun _ => rfl⟩
theorem staAbsY (w : Word) : Statement (.staAbsY w) :=
  ⟨⟨0x99, .absy, 5, false, .base, .f2 .staAbsY⟩, (rfl : lookup 0x99 = some _), rfl, rfl, rfl, fun rest => congrArg (fun v => some (Instr.staAbsY v, rest)) (cat_hi_lo w)⟩
theorem txs : Statement (.txs) :=
  ⟨⟨0x9A, .imp, 2, false, .base, .f0 .txs⟩, (rfl : lookup 0x9A = some _), rfl, rfl, rfl, fun _ => rfl⟩
theorem stzAbs (w : Word) : Statement (.stzAbs w) :=
  ⟨⟨0x9C, .abs, 4, false, .c02Optional, .f2 .stzAbs⟩, (rfl : lookup 0x9C = some _), rfl, rfl, rfl, fun rest => congrArg (fun v => some (Instr.stzAbs v, rest)) (cat_hi_lo w)⟩
theorem staAbsX (w : Word) : Statement (.staAbsX w) :=
  ⟨⟨0x9D, .absx, 5, false, .base, .f2 .staAbsX⟩, (rfl : lookup 0x9D = some _), rfl, rfl, rfl, fun rest => congrArg (fun v => some (Instr.staAbsX v, rest)) (cat_hi_lo w)⟩
theorem stzAbsX (w : Word) : Statement (.stzAbsX w) :=
  ⟨⟨0x9E, .absx, 5, false, .c02Optional, .f2 .stzAbsX⟩, (rfl : lookup 0x9E = some _), rfl, rfl, rfl, fun rest => congrArg (fun v => some (Instr.stzAbsX v, rest)) (cat_hi_lo w)⟩
theorem ldyImm (b : Byte) : Statement (.ldyImm b) :=
  ⟨⟨0xA0, .imm, 2, false, .base, .f1 .ldyImm⟩, (rfl : lookup 0xA0 = some _), rfl, rfl, rfl, fun _ => rfl⟩
theorem ldaIndX (b : Byte) : Statement (.ldaIndX b) :=
  ⟨⟨0xA1, .indx, 6, false, .base, .f1 .ldaIndX⟩, (rfl : lookup 0xA1 = some _), rfl, rfl, rfl, fun _ => rfl⟩
theorem ldxImm (b : Byte) : Statement (.ldxImm b) :=
  ⟨⟨0xA2, .imm, 2, false, .base, .f1 .ldxImm⟩, (rfl : lookup 0xA2 = some _), rfl, rfl, rfl, fun _ => rfl⟩
theorem ldyZp (b : Byte) : Statement (.ldyZp b) :=
  ⟨⟨0xA4, .zp, 3, false, .base, .f1 .ldyZp⟩, (rfl : lookup 0xA4 = some _), rfl, rfl, rfl, fun _ => rfl⟩
theorem ldaZp (b : Byte) : Statement (.ldaZp b) :=
  ⟨⟨0xA5, .zp, 3, false, .base, .f1 .ldaZp⟩, (rfl : lookup 0xA5 = some _), rfl, rfl, rfl, fun _ => rfl⟩
theorem ldxZp (b : Byte) : Statement (.ldxZp b) :=
  ⟨⟨0xA6, .zp, 3, false, .base, .f1 .ldxZp⟩, (rfl : lookup 0xA6 = some _), rfl, rfl, rfl, fun _ => rfl⟩
theorem tay : Statement (.tay) :=
  ⟨⟨0xA8, .imp, 2, false, .base, .f0 .tay⟩, (rfl : lookup 0xA8 = some _), rfl, rfl, rfl, fun _ => rfl⟩
theorem ldaImm (b : Byte) : Statement (.ldaImm b) :=
  ⟨⟨0xA9, .imm, 2, false, .base, .f1 .ldaImm⟩, (rfl : lookup 0xA9 = some _), rfl, rfl, rfl, fun _ => rfl⟩
theorem tax : Statement (.tax) :=
  ⟨⟨0xAA, .imp, 2, false, .base, .f0 .tax⟩, (rfl : lookup 0xAA = some _), rfl, rfl, rfl, fun _ => rfl⟩
theorem ldyAbs (w : Word) : Statement (.ldyAbs w) :=
  ⟨⟨0xAC, .abs, 4, false, .base, .f2 .ldyAbs⟩, (rfl : lookup 0xAC = some _), rfl, rfl, rfl, fun rest => congrArg (fun v => some (Instr.ldyAbs v, rest)) (cat_hi_lo w)⟩
theorem ldaAbs (w : Word) : Statement (.ldaAbs w) :=
  ⟨⟨0xAD, .abs, 4, false, .base, .f2 .ldaAbs⟩, (rfl : lookup 0xAD = some _), rfl, rfl, rfl, fun rest => congrArg (fun v => some (Instr.ldaAbs v, rest)) (cat_hi_lo w)⟩
theorem ldxAbs (w : Word) : Statement (.ldxAbs w) :=
  ⟨⟨0xAE, .abs, 4, false, .base, .f2 .ldxAbs⟩, (rfl : lookup 0xAE = some _), rfl, rfl, rfl, fun rest => congrArg (fun v => some (Instr.ldxAbs v, rest)) (cat_hi_lo w)⟩
theorem bcs (b : Byte) : Statement (.bcs b) :=
  ⟨⟨0xB0, .rel, 2, false, .base, .f1 .bcs⟩, (rfl : lookup 0xB0 = some _), rfl, rfl, rfl, fun _ => rfl⟩
theorem ldaIndY (b : Byte) : Statement (.ldaIndY b) :=
  ⟨⟨0xB1, .indy, 5, true, .base, .f1 .ldaIndY⟩, (rfl : lookup 0xB1 = some _), rfl, rfl, rfl, fun _ => rfl⟩
theorem ldyZpX (b : Byte) : Statement (.ldyZpX b) :=
  ⟨⟨0xB4, .zpx, 4, false, .base, .f1 .ldyZpX⟩, (rfl : lookup 0xB4 = some _), rfl, rfl, rfl, fun _ => rfl⟩
theorem ldaZpX (b : Byte) : Statement (.ldaZpX b) :=
  ⟨⟨0xB5, .zpx, 4, false, .base, .f1 .ldaZpX⟩, (rfl : lookup 0xB5 = some _), rfl, rfl, rfl, fun _ => rfl⟩
theorem ldxZpY (b : Byte) : Statement (.ldxZpY b) :=
  ⟨⟨0xB6, .zpy, 4, false, .base, .f1 .ldxZpY⟩, (rfl : lookup 0xB6 = some _), rfl, rfl, rfl, fun _ => rfl⟩
theorem clv : Statement (.clv) :=
  ⟨⟨0xB8, .imp, 2, false, .base, .f0 .clv⟩, (rfl : lookup 0xB8 = some _), rfl, rfl, rfl, fun _ => rfl⟩
theorem ldaAbsY (w : Word) : Statement (.ldaAbsY w) :=
  ⟨⟨0xB9, .absy, 4, true, .base, .f2 .ldaAbsY⟩, (rfl : lookup 0xB9 = some _), rfl, rfl, rfl, fun rest => congrArg (fun v => some (Instr.ldaAbsY v, rest)) (cat_hi_lo w)⟩
theorem tsx : Statement (.tsx) :=
  ⟨⟨0xBA, .imp, 2, false, .base, .f0 .tsx⟩, (rfl : lookup 0xBA = some _), rfl, rfl, rfl, fun _ => rfl⟩
theorem ldyAbsX (w : Word) : Statement (.ldyAbsX w) :=
  ⟨⟨0xBC, .absx, 4, true, .base, .f2 .ldyAbsX⟩, (rfl : lookup 0xBC = some _), rfl, rfl, rfl, fun rest => congrArg (fun v => some (Instr.ldyAbsX v, rest)) (cat_hi_lo w)⟩
theorem ldaAbsX (w : Word) : Statement (.ldaAbsX w) :=
  ⟨⟨0xBD, .absx, 4, true, .base, .f2 .ldaAbsX⟩, (rfl : lookup 0xBD = some _), rfl, rfl, rfl, fun rest => congrArg (fun v => some (Instr.ldaAbsX v, rest)) (cat_hi_lo w)⟩
theorem ldxAbsY (w : Word) : Statement (.ldxAbsY w) :=
  ⟨⟨0xBE, .absy, 4, true, .base, .f2 .ldxAbsY⟩, (rfl : lookup 0xBE = some _), rfl, rfl, rfl, fun rest => congrArg (fun v => some (Instr.ldxAbsY v, rest)) (cat_hi_lo w)⟩
theorem cpyImm (b : Byte) : Statement (.cpyImm b) :=
  ⟨⟨0xC0, .imm, 2, false, .base, .f1 .cpyImm⟩, (rfl : lookup 0xC0 = some _), rfl, rfl, rfl, fun _ => rfl⟩
theorem cmpIndX (b : Byte) : Statement (.cmpIndX b) :=
  ⟨⟨0xC1, .indx, 6, false, .base, .f1 .cmpIndX⟩, (rfl : lookup 0xC1 = some _), rfl, rfl, rfl, fun _ => rfl⟩
theorem cpyZp (b : Byte) : Statement (.cpyZp b) :=
  ⟨⟨0xC4, .zp, 3, false, .base, .f1 .cpyZp⟩, (rfl : lookup 0xC4 = some _), rfl, rfl, rfl, fun _ => rfl⟩
theorem cmpZp (b : Byte) : Statement (.cmpZp b) :=
  ⟨⟨0xC5, .zp, 3, false, .base, .f1 .cmpZp⟩, (rfl : lookup 0xC5 = some _), rfl, rfl, rfl, fun _ => rfl⟩
theorem decZp (b : Byte) : Statement (.decZp b) :=
  ⟨⟨0xC6, .zp, 5, false, .base, .f1 .decZp⟩, (rfl : lookup 0xC6 = some _), rfl, rfl, rfl, fun _ => rfl⟩
theorem iny : Statement (.iny) :=
  ⟨⟨0xC8, .imp, 2, false, .base, .f0 .iny⟩, (rfl : lookup 0xC8 = some _), rfl, rfl, rfl, fun _ => rfl⟩
theorem cmpImm (b : Byte) : Statement (.cmpImm b) :=
  ⟨⟨0xC9, .imm, 2, false, .base, .f1 .cmpImm⟩, (rfl : lookup 0xC9 = some _), rfl, rfl, rfl, fun _ => rfl⟩
theorem dex : Statement (.dex) :=
  ⟨⟨0xCA, .imp, 2, false, .base, .f0 .dex⟩, (rfl : lookup 0xCA = some _), rfl, rfl, rfl, fun _ => rfl⟩
theorem cpyAbs (w : Word) : Statement (.cpyAbs w) :=
  ⟨⟨0xCC, .abs, 4, false, .base, .f2 .cpyAbs⟩, (rfl : lookup 0xCC = some _), rfl, rfl, rfl, fun rest => congrArg (fun v => some (Instr.cpyAbs v, rest)) (cat_hi_lo w)⟩
theorem cmpAbs (w : Word) : Statement (.cmpAbs w) :=
  ⟨⟨0xCD, .abs, 4, false, .base, .f2 .cmpAbs⟩, (rfl : lookup 0xCD = some _), rfl, rfl, rfl, fun rest => congrArg (fun v => some (Instr.cmpAbs v, rest)) (cat_hi_lo w)⟩
theorem decAbs (w : Word) : Statement (.decAbs w) :=
  ⟨⟨0xCE, .abs, 6, false, .base, .f2 .decAbs⟩, (rfl : lookup 0xCE = some _), rfl, rfl, rfl, fun rest => congrArg (fun v => some (Instr.decAbs v, rest)) (cat_hi_lo w)⟩
theorem bne (b : Byte) : Statement (.bne b) :=
  ⟨⟨0xD0, .rel, 2, false, .base, .f1 .bne⟩, (rfl : lookup 0xD0 = some _), rfl, rfl, rfl, fun _ => rfl⟩
theorem cmpIndY (b : Byte) : Statement (.cmpIndY b) :=
  ⟨⟨0xD1, .indy, 5, true, .base, .f1 .cmpIndY⟩, (rfl : lookup 0xD1 = some _), rfl, rfl, rfl, fun _ => rfl⟩
theorem cmpZpX (b : Byte) : Statement (.cmpZpX b) :=
  ⟨⟨0xD5, .zpx, 4, false, .base, .f1 .cmpZpX⟩, (rfl : lookup 0xD5 = some _), rfl, rfl, rfl, fun _ => rfl⟩
theorem decZpX (b : Byte) : Statement (.decZpX b) :=
  ⟨⟨0xD6, .zpx, 6, false, .base, .f1 .decZpX⟩, (rfl : lookup 0xD6 = some _), rfl, rfl, rfl, fun _ => rfl⟩
theorem cld : Statement (.cld) :=
  ⟨⟨0xD8, .imp, 2, false, .base, .f0 .cld⟩, (rfl : lookup 0xD8 = some _), rfl, rfl, rfl, fun _ => rfl⟩
theorem cmpAbsY (w : Word) : Statement (.cmpAbsY w) :=
  ⟨⟨0xD9, .absy, 4, true, .base, .f2 .cmpAbsY⟩, (rfl : lookup 0xD9 = some _), rfl, rfl, rfl, fun rest => congrArg (fun v => some (Instr.cmpAbsY v, rest)) (cat_hi_lo w)⟩
theorem phx : Statement (.phx) :=
  ⟨⟨0xDA, .imp, 3, false, .c02Named, .f0 .phx⟩, (rfl : lookup 0xDA = some _), rfl, rfl, rfl, fun _ => rfl⟩
theorem cmpAbsX (w : Word) : Statement (.cmpAbsX w) :=
  ⟨⟨0xDD, .absx, 4, true, .base, .f2 .cmpAbsX⟩, (rfl : lookup 0xDD = some _), rfl, rfl, rfl, fun rest => congrArg (fun v => some (Instr.cmpAbsX v, rest)) (cat_hi_lo w)⟩
theorem decAbsX (w : Word) : Statement (.decAbsX w) :=
  ⟨⟨0xDE, .absx, 7, false, .base, .f2 .decAbsX⟩, (rfl : lookup 0xDE = some _), rfl, rfl, rfl, fun rest => congrArg (fun v => some (Instr.decAbsX v, rest)) (cat_hi_lo w)⟩
theorem cpxImm (b : Byte) : Statement (.cpxImm b) :=
  ⟨⟨0xE0, .imm, 2, false, .base, .f1 .cpxImm⟩, (rfl : lookup 0xE0 = some _), rfl, rfl, rfl, fun _ => rfl⟩
theorem sbcIndX (b : Byte) : Statement (.sbcIndX b) :=
  ⟨⟨0xE1, .indx, 6, false, .base, .f1 .sbcIndX⟩, (rfl : lookup 0xE1 = some _), rfl, rfl, rfl, fun _ => rfl⟩
theorem cpxZp (b : Byte) : Statement (.cpxZp b) :=
  ⟨⟨0xE4, .zp, 3, false, .base, .f1 .cpxZp⟩, (rfl : lookup 0xE4 = some _), rfl, rfl, rfl, fun _ => rfl⟩
theorem sbcZp (b : Byte) : Statement (.sbcZp b) :=
  ⟨⟨0xE5, .zp, 3, false, .base, .f1 .sbcZp⟩, (rfl : lookup 0xE5 = some _), rfl, rfl, rfl, fun _ => rfl⟩
theorem incZp (b : Byte) : Statement (.incZp b) :=
  ⟨⟨0xE6, .zp, 5, false, .base, .f1 .incZp⟩, (rfl : lookup 0xE6 = some _), rfl, rfl, rfl, fun _ => rfl⟩
theorem inx : Statement (.inx) :=
  ⟨⟨0xE8, .imp, 2, false, .base, .f0 .inx⟩, (rfl : lookup 0xE8 = some _), rfl, rfl, rfl, fun _ => rfl⟩
theorem sbcImm (b : Byte) : Statement (.sbcImm b) :=
  ⟨⟨0xE9, .imm, 2, false, .base, .f1 .sbcImm⟩, (rfl : lookup 0xE9 = some _), rfl, rfl, rfl, fun _ => rfl⟩
theorem nop : Statement (.nop) :=
  ⟨⟨0xEA, .imp, 2, false, .base, .f0 .nop⟩, (rfl : lookup 0xEA = some _), rfl, rfl, rfl, fun _ => rfl⟩
theorem cpxAbs (w : Word) : Statement (.cpxAbs w) :=
  ⟨⟨0xEC, .abs, 4, false, .base, .f2 .cpxAbs⟩, (rfl : lookup 0xEC = some _), rfl, rfl, rfl, fun rest => congrArg (fun v => some (Instr.cpxAbs v, rest)) (cat_hi_lo w)⟩
theorem sbcAbs (w : Word) : Statement (.sbcAbs w) :=
  ⟨⟨0xED, .abs, 4, false, .base, .f2 .sbcAbs⟩, (rfl : lookup 0xED = some _), rfl, rfl, rfl, fun rest => congrArg (fun v => some (Instr.sbcAbs v, rest)) (cat_hi_lo w)⟩
theorem incAbs (w : Word) : Statement (.incAbs w) :=
  ⟨⟨0xEE, .abs, 6, false, .base, .f2 .incAbs⟩, (rfl : lookup 0xEE = some _), rfl, rfl, rfl, fun rest => congrArg (fun v => some (Instr.incAbs v, rest)) (cat_hi_lo w)⟩
theorem beq (b : Byte) : Statement (.beq b) :=
  ⟨⟨0xF0, .rel, 2, false, .base, .f1 .beq⟩, (rfl : lookup 0xF0 = some _), rfl, rfl, rfl, fun _ => rfl⟩
theorem sbcIndY (b : Byte) : Statement (.sbcIndY b) :=
  ⟨⟨0xF1, .indy, 5, true, .base, .f1 .sbcIndY⟩, (rfl : lookup 0xF1 = some _), rfl, rfl, rfl, fun _ => rfl⟩
theorem sbcZpX (b : Byte) : Statement (.sbcZpX b) :=
  ⟨⟨0xF5, .zpx, 4, false, .base, .f1 .sbcZpX⟩, (rfl : lookup 0xF5 = some _), rfl, rfl, rfl, fun _ => rfl⟩
theorem incZpX (b : Byte) : Statement (.incZpX b) :=
  ⟨⟨0xF6, .zpx, 6, false, .base, .f1 .incZpX⟩, (rfl : lookup 0xF6 = some _), rfl, rfl, rfl, fun _ => rfl⟩
theorem sed : Statement (.sed) :=
  ⟨⟨0xF8, .imp, 2, false, .base, .f0 .sed⟩, (rfl : lookup 0xF8 = some _), rfl, rfl, rfl, fun _ => rfl⟩
theorem sbcAbsY (w : Word) : Statement (.sbcAbsY w) :=
  ⟨⟨0xF9, .absy, 4, true, .base, .f2 .sbcAbsY⟩, (rfl : lookup 0xF9 = some _), rfl, rfl, rfl, fun rest => congrArg (fun v => some (Instr.sbcAbsY v, rest)) (cat_hi_lo w)⟩
theorem plx : Statement (.plx) :=
  ⟨⟨0xFA, .imp, 4, false, .c02Named, .f0 .plx⟩, (rfl : lookup 0xFA = some _), rfl, rfl, rfl, fun _ => rfl⟩
theorem sbcAbsX (w : Word) : Statement (.sbcAbsX w) :=
  ⟨⟨0xFD, .absx, 4, true, .base, .f2 .sbcAbsX⟩, (rfl : lookup 0xFD = some _), rfl, rfl, rfl, fun rest => congrArg (fun v => some (Instr.sbcAbsX v, rest)) (cat_hi_lo w)⟩
theorem incAbsX (w : Word) : Statement (.incAbsX w) :=
  ⟨⟨0xFE, .absx, 7, false, .base, .f2 .incAbsX⟩, (rfl : lookup 0xFE = some _), rfl, rfl, rfl, fun rest => congrArg (fun v => some (Instr.incAbsX v, rest)) (cat_hi_lo w)⟩

end Laws.OpcodeRow

end Sys2Proof
end

