-- ==== Sys2Proof/Laws/Tick.lean ====
section
/-! SUPPORT. What one step can do, said once: the four cases of a tick (R120, R47), each with its guard. -/

namespace Sys2Proof.Machine

/-- A step that answers a next state is a burn tick, a halted tick, an illegal opcode or an instruction (R120). -/
theorem step_cases {s t : State} (h : step s = .next t) :
    s.pcSeeded = true ∧
      ((0 < s.cyc ∧ t = burn s) ∨
        (s.cyc = 0 ∧ halted s = true ∧ t = s) ∨
        (s.cyc = 0 ∧ halted s = false ∧ (∃ e, fetch s = .error e) ∧ t = raise .illegalOpcode (clearBonus s)) ∨
        (s.cyc = 0 ∧ halted s = false ∧ ∃ i, fetch s = .ok i ∧ exec i (clearBonus s) = .next t)) := by
  unfold step tick at h
  split at h
  · rename_i hs
    refine ⟨hs, ?_⟩
    split at h
    · rename_i hc
      exact .inl ⟨hc, by simpa using h.symm⟩
    · rename_i hc
      have hc0 : s.cyc = 0 := by omega
      split at h
      · rename_i hh
        exact .inr (.inl ⟨hc0, hh, by simpa using h.symm⟩)
      · rename_i hh
        have hh0 : halted s = false := by simpa using hh
        unfold fetchTick at h
        split at h
        · rename_i e he
          exact .inr (.inr (.inl ⟨hc0, hh0, ⟨e, he⟩, by simpa using h.symm⟩))
        · rename_i i hi
          exact .inr (.inr (.inr ⟨hc0, hh0, i, hi, h⟩))
  · exact absurd h (by simp)

theorem step_burn {s : State} (hs : s.pcSeeded = true) (hc : 0 < s.cyc) : step s = .next (burn s) := by
  simp [step, tick, hs, hc]

theorem step_halted {s : State} (hs : s.pcSeeded = true) (hc : s.cyc = 0) (hh : halted s = true) :
    step s = .next s := by
  simp [step, tick, hs, hc, hh]

theorem step_fetch {s : State} (hs : s.pcSeeded = true) (hc : s.cyc = 0) (hh : halted s = false) :
    step s = fetchTick s := by
  simp [step, tick, hs, hc, hh]

end Sys2Proof.Machine
end

