-- ==== Sys2Proof/Tests/Slice0.lean ====
section
/-! SUPPORT. The model's own tests. Expected values are from `95_test_vectors.md` (a docstring names the vector) or worked
out from the rule named. Every test is one step on a small state. The last part shows, for every obligation that has
hypotheses, a state and operands that meet them. -/

namespace Sys2Proof.Tests

open Machine Claims

set_option maxRecDepth 4000
set_option Elab.async false

/-- The reset state with `pc` at an address and the bytes listed in memory. -/
def start (pc : Word) (bytes : Memory) : State := { State.reset with pc := pc, mem := bytes }

/-- The same with the optional opcodes on. -/
def startC02 (pc : Word) (bytes : Memory) : State := { start pc bytes with cfg := { c02Extra := true } }

/-- One step answers a next state that passes the check. -/
def nextMeets (s : State) (check : State → Bool) : Bool :=
  match step s with
  | .next t => check t
  | .fault _ => false
  | .refused _ => false

/-- Every word, followed by another byte, decodes to its instruction with that byte left over, all opcodes on. -/
def decodeAs (words : List (List Byte × Instr)) : Bool :=
  words.all fun p => match decode true (p.1 ++ [0x77]) with
    | .ok (i, rest) => i == p.2 && rest == [0x77]
    | .error _ => false

/-! ## Well-formedness: the optional group exists only with `C02_EXTRA` (R84, R270) -/

theorem test_optional_is_ill_formed_by_default : (Instr.stzZp 0x10).wellFormed false = false := by decide

theorem test_optional_is_well_formed_with_extra : (Instr.stzZp 0x10).wellFormed true = true := by decide

theorem test_named_is_well_formed_always : Instr.phx.wellFormed false = true := by decide

theorem test_ill_formed_does_not_decode : decode false (encode (.stzZp 0x10)) = .error (.illegalOpcode 0x64) := rfl

theorem test_truncated_does_not_decode : decode false [0xAD, 0x34] = .error .truncated := rfl

/-! ## Decoding: every constructor's word, written out from the byte the spec gives the form and R82 -/

theorem test_decode_bits_lda_imm : decode false [0b10101001, 0b11111110] = .ok (.ldaImm 0xFE, []) := rfl
theorem test_decode_bits_adc_indy : decode false [0b01110001, 0b01000000] = .ok (.adcIndY 0x40, []) := rfl
theorem test_decode_bits_ror_absx : decode false [0b01111110, 0b11111111, 0b00010010] = .ok (.rorAbsX 0x12FF, []) := rfl
theorem test_decode_bits_bne : decode false [0b11010000, 0b10000000] = .ok (.bne 0x80, []) := rfl
theorem test_decode_bits_php : decode false [0b00001000] = .ok (.php, []) := rfl
theorem test_decode_bits_trb_abs : decode true [0b00011100, 0b00110100, 0b00010010] = .ok (.trbAbs 0x1234, []) := rfl

/-! Words of the loads, stores and transfers (R140 to R152). -/

theorem test_decode_load_words_1 : decodeAs
    [([0x81, 0x85], .staIndX 0x85), ([0x84, 0x85], .styZp 0x85), ([0x85, 0x85], .staZp 0x85),
      ([0x86, 0x85], .stxZp 0x85), ([0x8A], .txa), ([0x8C, 0x34, 0x92], .styAbs 0x9234),
      ([0x8D, 0x34, 0x92], .staAbs 0x9234), ([0x8E, 0x34, 0x92], .stxAbs 0x9234), ([0x91, 0x85], .staIndY 0x85),
      ([0x94, 0x85], .styZpX 0x85), ([0x95, 0x85], .staZpX 0x85), ([0x96, 0x85], .stxZpY 0x85), ([0x98], .tya)] = true := by
  decide +kernel

theorem test_decode_load_words_2 : decodeAs
    [([0x99, 0x34, 0x92], .staAbsY 0x9234), ([0x9A], .txs), ([0x9D, 0x34, 0x92], .staAbsX 0x9234),
      ([0xA0, 0x85], .ldyImm 0x85), ([0xA1, 0x85], .ldaIndX 0x85), ([0xA2, 0x85], .ldxImm 0x85),
      ([0xA4, 0x85], .ldyZp 0x85), ([0xA5, 0x85], .ldaZp 0x85), ([0xA6, 0x85], .ldxZp 0x85), ([0xA8], .tay),
      ([0xA9, 0x85], .ldaImm 0x85), ([0xAA], .tax), ([0xAC, 0x34, 0x92], .ldyAbs 0x9234)] = true := by
  decide +kernel

theorem test_decode_load_words_3 : decodeAs
    [([0xAD, 0x34, 0x92], .ldaAbs 0x9234), ([0xAE, 0x34, 0x92], .ldxAbs 0x9234), ([0xB1, 0x85], .ldaIndY 0x85),
      ([0xB4, 0x85], .ldyZpX 0x85), ([0xB5, 0x85], .ldaZpX 0x85), ([0xB6, 0x85], .ldxZpY 0x85),
      ([0xB9, 0x34, 0x92], .ldaAbsY 0x9234), ([0xBA], .tsx), ([0xBC, 0x34, 0x92], .ldyAbsX 0x9234),
      ([0xBD, 0x34, 0x92], .ldaAbsX 0x9234), ([0xBE, 0x34, 0x92], .ldxAbsY 0x9234)] = true := by
  decide +kernel

/-! Words of the arithmetic, logic, compares and bit test (R170 to R181). -/

theorem test_decode_alu_words_1 : decodeAs
    [([0x01, 0x85], .oraIndX 0x85), ([0x05, 0x85], .oraZp 0x85), ([0x09, 0x85], .oraImm 0x85),
      ([0x0D, 0x34, 0x92], .oraAbs 0x9234), ([0x11, 0x85], .oraIndY 0x85), ([0x15, 0x85], .oraZpX 0x85),
      ([0x19, 0x34, 0x92], .oraAbsY 0x9234), ([0x1D, 0x34, 0x92], .oraAbsX 0x9234),
      ([0x21, 0x85], .andIndX 0x85), ([0x24, 0x85], .bitZp 0x85), ([0x25, 0x85], .andZp 0x85),
      ([0x29, 0x85], .andImm 0x85), ([0x2C, 0x34, 0x92], .bitAbs 0x9234), ([0x2D, 0x34, 0x92], .andAbs 0x9234)] = true := by
  decide +kernel

theorem test_decode_alu_words_2 : decodeAs
    [([0x31, 0x85], .andIndY 0x85), ([0x35, 0x85], .andZpX 0x85), ([0x39, 0x34, 0x92], .andAbsY 0x9234),
      ([0x3D, 0x34, 0x92], .andAbsX 0x9234), ([0x41, 0x85], .eorIndX 0x85), ([0x45, 0x85], .eorZp 0x85),
      ([0x49, 0x85], .eorImm 0x85), ([0x4D, 0x34, 0x92], .eorAbs 0x9234), ([0x51, 0x85], .eorIndY 0x85),
      ([0x55, 0x85], .eorZpX 0x85), ([0x59, 0x34, 0x92], .eorAbsY 0x9234),
      ([0x5D, 0x34, 0x92], .eorAbsX 0x9234), ([0x61, 0x85], .adcIndX 0x85), ([0x65, 0x85], .adcZp 0x85)] = true := by
  decide +kernel

theorem test_decode_alu_words_3 : decodeAs
    [([0x69, 0x85], .adcImm 0x85), ([0x6D, 0x34, 0x92], .adcAbs 0x9234), ([0x71, 0x85], .adcIndY 0x85),
      ([0x75, 0x85], .adcZpX 0x85), ([0x79, 0x34, 0x92], .adcAbsY 0x9234),
      ([0x7D, 0x34, 0x92], .adcAbsX 0x9234), ([0xC0, 0x85], .cpyImm 0x85), ([0xC1, 0x85], .cmpIndX 0x85),
      ([0xC4, 0x85], .cpyZp 0x85), ([0xC5, 0x85], .cmpZp 0x85), ([0xC9, 0x85], .cmpImm 0x85),
      ([0xCC, 0x34, 0x92], .cpyAbs 0x9234), ([0xCD, 0x34, 0x92], .cmpAbs 0x9234), ([0xD1, 0x85], .cmpIndY 0x85)] = true := by
  decide +kernel

theorem test_decode_alu_words_4 : decodeAs
    [([0xD5, 0x85], .cmpZpX 0x85), ([0xD9, 0x34, 0x92], .cmpAbsY 0x9234),
      ([0xDD, 0x34, 0x92], .cmpAbsX 0x9234), ([0xE0, 0x85], .cpxImm 0x85), ([0xE1, 0x85], .sbcIndX 0x85),
      ([0xE4, 0x85], .cpxZp 0x85), ([0xE5, 0x85], .sbcZp 0x85), ([0xE9, 0x85], .sbcImm 0x85),
      ([0xEC, 0x34, 0x92], .cpxAbs 0x9234), ([0xED, 0x34, 0x92], .sbcAbs 0x9234), ([0xF1, 0x85], .sbcIndY 0x85),
      ([0xF5, 0x85], .sbcZpX 0x85), ([0xF9, 0x34, 0x92], .sbcAbsY 0x9234), ([0xFD, 0x34, 0x92], .sbcAbsX 0x9234)] = true := by
  decide +kernel

/-! Words of the shifts, rotates, increments and decrements (R190 to R200). -/

theorem test_decode_shift_words_1 : decodeAs
    [([0x06, 0x85], .aslZp 0x85), ([0x0A], .aslA), ([0x0E, 0x34, 0x92], .aslAbs 0x9234),
      ([0x16, 0x85], .aslZpX 0x85), ([0x1E, 0x34, 0x92], .aslAbsX 0x9234), ([0x26, 0x85], .rolZp 0x85),
      ([0x2A], .rolA), ([0x2E, 0x34, 0x92], .rolAbs 0x9234), ([0x36, 0x85], .rolZpX 0x85),
      ([0x3E, 0x34, 0x92], .rolAbsX 0x9234), ([0x46, 0x85], .lsrZp 0x85), ([0x4A], .lsrA),
      ([0x4E, 0x34, 0x92], .lsrAbs 0x9234), ([0x56, 0x85], .lsrZpX 0x85), ([0x5E, 0x34, 0x92], .lsrAbsX 0x9234),
      ([0x66, 0x85], .rorZp 0x85)] = true := by
  decide +kernel

theorem test_decode_shift_words_2 : decodeAs
    [([0x6A], .rorA), ([0x6E, 0x34, 0x92], .rorAbs 0x9234), ([0x76, 0x85], .rorZpX 0x85),
      ([0x7E, 0x34, 0x92], .rorAbsX 0x9234), ([0x88], .dey), ([0xC6, 0x85], .decZp 0x85), ([0xC8], .iny),
      ([0xCA], .dex), ([0xCE, 0x34, 0x92], .decAbs 0x9234), ([0xD6, 0x85], .decZpX 0x85),
      ([0xDE, 0x34, 0x92], .decAbsX 0x9234), ([0xE6, 0x85], .incZp 0x85), ([0xE8], .inx),
      ([0xEE, 0x34, 0x92], .incAbs 0x9234), ([0xF6, 0x85], .incZpX 0x85), ([0xFE, 0x34, 0x92], .incAbsX 0x9234)] = true := by
  decide +kernel

/-! Words of the branches, jumps, calls and returns (R210 to R226). -/

theorem test_decode_branch_words_1 : decodeAs
    [([0x10, 0x85], .bpl 0x85), ([0x20, 0x34, 0x92], .jsr 0x9234), ([0x30, 0x85], .bmi 0x85), ([0x40], .rti),
      ([0x4C, 0x34, 0x92], .jmpAbs 0x9234), ([0x50, 0x85], .bvc 0x85), ([0x60], .rts),
      ([0x6C, 0x34, 0x92], .jmpInd 0x9234), ([0x70, 0x85], .bvs 0x85), ([0x7C, 0x34, 0x92], .jmpIndAbsX 0x9234),
      ([0x90, 0x85], .bcc 0x85), ([0xB0, 0x85], .bcs 0x85), ([0xD0, 0x85], .bne 0x85), ([0xF0, 0x85], .beq 0x85)] = true := by
  decide +kernel

/-! Words of the stack, flags, NOP and BRK (R240 to R259). -/

theorem test_decode_stack_words_1 : decodeAs
    [([0x00], .brk), ([0x08], .php), ([0x18], .clc), ([0x28], .plp), ([0x38], .sec), ([0x48], .pha),
      ([0x58], .cli), ([0x5A], .phy), ([0x68], .pla)] = true := by
  decide +kernel

theorem test_decode_stack_words_2 : decodeAs
    [([0x78], .sei), ([0x7A], .ply), ([0xB8], .clv), ([0xD8], .cld), ([0xDA], .phx), ([0xEA], .nop),
      ([0xF8], .sed), ([0xFA], .plx)] = true := by
  decide +kernel

/-! Words of the optional 65C02 instructions (R270 to R279). -/

theorem test_decode_optional_words_1 : decodeAs
    [([0x04, 0x85], .tsbZp 0x85), ([0x0C, 0x34, 0x92], .tsbAbs 0x9234), ([0x14, 0x85], .trbZp 0x85),
      ([0x1A], .incA), ([0x1C, 0x34, 0x92], .trbAbs 0x9234), ([0x34, 0x85], .bitZpX 0x85), ([0x3A], .decA),
      ([0x3C, 0x34, 0x92], .bitAbsX 0x9234), ([0x64, 0x85], .stzZp 0x85), ([0x74, 0x85], .stzZpX 0x85),
      ([0x80, 0x85], .bra 0x85), ([0x89, 0x85], .bitImm 0x85), ([0x9C, 0x34, 0x92], .stzAbs 0x9234),
      ([0x9E, 0x34, 0x92], .stzAbsX 0x9234)] = true := by
  decide +kernel

/-! ## The host's table words (little-endian: the second byte is bits 15 to 8) -/

theorem test_decodeTableWord_jsr : decodeTableWord 24 0x900020 = some (.jsr 0x9000) := rfl

theorem test_decodeTableWord_without_operand_bytes : decodeTableWord 8 0xBD = some (.ldaAbsX 0x0000) := rfl

theorem test_decodeTableWord_rejects : decodeTableWord 8 0x02 = none := rfl

theorem test_withFetchWord_runs : nextMeets (State.reset.withFetchWord 24 0x900020) (fun t => t.pc == 0x9000) = true := by
  decide

/-! ## One step of each instruction, from the spec's vectors -/

/-! ### Addressing and source scenarios -/

/-- Vector S1. -/
theorem test_adc_source_scenario : nextMeets
    { start 0x0200 [(0x0200, 0x69), (0x0201, 0xFE)] with a := 0x07 }
    (fun t => t.a == 0x05 && t.flags.c && !t.flags.z && !t.flags.v && !t.flags.n && t.cyc == 2) = true := by decide

/-- Vector S3a. -/
theorem test_beq_taken_across_page : nextMeets
    { start 0x01F0 [(0x01F0, 0xF0), (0x01F1, 0x10)] with flags := { State.reset.flags with z := true } }
    (fun t => t.pc == 0x0202 && t.cyc == 4) = true := by decide

/-- Vector A3. -/
theorem test_lda_zpx_wraps : nextMeets
    { start 0x0200 [(0x0010, 0x22), (0x0110, 0xEE), (0x0200, 0xB5), (0x0201, 0xF0)] with x := 0x20 }
    (fun t => t.a == 0x22 && t.cyc == 4) = true := by decide

/-- Vector A4. -/
theorem test_lda_zpx : nextMeets
    { start 0x0200 [(0x008F, 0x33), (0x0200, 0xB5), (0x0201, 0x80)] with x := 0x0F }
    (fun t => t.a == 0x33 && t.cyc == 4) = true := by decide

/-- Vector A5. -/
theorem test_ldx_zpy_wraps : nextMeets
    { start 0x0200 [(0x007F, 0x44), (0x0200, 0xB6), (0x0201, 0x80)] with y := 0xFF }
    (fun t => t.x == 0x44 && t.cyc == 4) = true := by decide

/-- Vector A8. -/
theorem test_lda_absx_crosses : nextMeets
    { start 0x0200 [(0x0200, 0xBD), (0x0201, 0xFF), (0x0202, 0x12), (0x1300, 0x77)] with x := 0x01 }
    (fun t => t.a == 0x77 && t.cyc == 5) = true := by decide

/-- Vector A9. -/
theorem test_lda_absx_wraps_at_top : nextMeets
    { start 0x0200 [(0x0001, 0x88), (0x0200, 0xBD), (0x0201, 0xFF), (0x0202, 0xFF)] with x := 0x02 }
    (fun t => t.a == 0x88 && t.flags.n && t.cyc == 5) = true := by decide

/-- Vector A13. -/
theorem test_lda_indx_pointer_wraps : nextMeets
    (start 0x0200 [(0x0000, 0x12), (0x00FF, 0x34), (0x0100, 0x99), (0x0200, 0xA1), (0x0201, 0xFF), (0x1234, 0xAD)])
    (fun t => t.a == 0xAD && t.cyc == 6) = true := by decide

/-- Vector A15. -/
theorem test_lda_indy_crosses : nextMeets
    { start 0x0200 [(0x0040, 0xFF), (0x0041, 0x30), (0x0200, 0xB1), (0x0201, 0x40), (0x3100, 0xBD)] with
      y := 0x01 }
    (fun t => t.a == 0xBD && t.cyc == 6) = true := by decide

/-- Vector A16. -/
theorem test_sta_indy_pays_nothing : nextMeets
    { start 0x0200 [(0x0040, 0xFF), (0x0041, 0x30), (0x0200, 0x91), (0x0201, 0x40)] with y := 0x01, a := 0x5A }
    (fun t => memRead t 0x3100 == 0x5A && t.cyc == 6) = true := by decide

/-- Vector A17. -/
theorem test_jmp_ind_at_page_end : nextMeets
    (start 0x0200 [(0x0200, 0x6C), (0x0201, 0xFF), (0x0202, 0x02), (0x02FF, 0x34), (0x0300, 0x12)])
    (fun t => t.pc == 0x1234 && t.cyc == 5) = true := by decide

/-- Vector A18. -/
theorem test_jmp_indabsx : nextMeets
    { start 0x0200 [(0x0200, 0x7C), (0x0202, 0x03), (0x0304, 0x78), (0x0305, 0x56)] with x := 0x04 }
    (fun t => t.pc == 0x5678 && t.cyc == 6) = true := by decide

/-- Vector A19. -/
theorem test_asl_a : nextMeets
    { start 0x0200 [(0x0200, 0x0A)] with a := 0x41 }
    (fun t => t.a == 0x82 && t.pc == 0x0201 && !t.flags.c && t.flags.n && t.cyc == 2) = true := by decide

/-- Vector A20. -/
theorem test_bne_most_negative : nextMeets
    (start 0x0300 [(0x0300, 0xD0), (0x0301, 0x80)])
    (fun t => t.pc == 0x0282 && t.cyc == 4) = true := by decide

/-- Vector A21. -/
theorem test_bne_most_positive : nextMeets
    (start 0x0300 [(0x0300, 0xD0), (0x0301, 0x7F)])
    (fun t => t.pc == 0x0381 && t.cyc == 3) = true := by decide

/-! ### Loads, stores, transfers -/

/-- Vector L2. -/
theorem test_lda_imm_negative : nextMeets
    (start 0x0200 [(0x0200, 0xA9), (0x0201, 0x80)])
    (fun t => t.a == 0x80 && !t.flags.z && t.flags.n && t.cyc == 2) = true := by decide

/-- Vector L4. -/
theorem test_ldy_absx : nextMeets
    { start 0x0200 [(0x0200, 0xBC), (0x0201, 0x34), (0x0202, 0x12), (0x1235, 0xFF)] with x := 0x01 }
    (fun t => t.y == 0xFF && !t.flags.z && t.flags.n && t.cyc == 4) = true := by decide

/-- Vector L5. -/
theorem test_sta_writes_no_flag : nextMeets
    { start 0x0200 [(0x0010, 0xEE), (0x0200, 0x85), (0x0201, 0x10)] with
      flags := { State.reset.flags with n := true } }
    (fun t => !t.flags.z && t.flags.n && memRead t 0x0010 == 0x00 && t.cyc == 3) = true := by decide

/-- Vector L7. -/
theorem test_stx_zpy_wraps : nextMeets
    { start 0x0200 [(0x0200, 0x96), (0x0201, 0xFF)] with x := 0x7F, y := 0x02 }
    (fun t => memRead t 0x0001 == 0x7F && t.cyc == 4) = true := by decide

/-- Vector L8. -/
theorem test_sty_abs : nextMeets
    { start 0x0200 [(0x0200, 0x8C), (0x0201, 0x34), (0x0202, 0x12)] with y := 0x01 }
    (fun t => memRead t 0x1234 == 0x01 && t.cyc == 4) = true := by decide

/-- Vector L9. -/
theorem test_tax : nextMeets
    { start 0x0200 [(0x0200, 0xAA)] with a := 0x80 }
    (fun t => t.x == 0x80 && t.a == 0x80 && !t.flags.z && t.flags.n && t.cyc == 2) = true := by decide

/-- Vector L10. -/
theorem test_tay_zero : nextMeets
    { start 0x0200 [(0x0200, 0xA8)] with y := 0x33 }
    (fun t => t.y == 0x00 && t.flags.z && !t.flags.n && t.cyc == 2) = true := by decide

/-- Vector L11. -/
theorem test_txa : nextMeets
    { start 0x0200 [(0x0200, 0x8A)] with a := 0x33 }
    (fun t => t.a == 0x00 && t.flags.z && !t.flags.n && t.cyc == 2) = true := by decide

/-- Vector L12. -/
theorem test_tya : nextMeets
    { start 0x0200 [(0x0200, 0x98)] with y := 0xFF }
    (fun t => t.a == 0xFF && !t.flags.z && t.flags.n && t.cyc == 2) = true := by decide

/-- Vector L13. -/
theorem test_tsx : nextMeets
    (start 0x0200 [(0x0200, 0xBA)])
    (fun t => t.x == 0xFD && t.sp == 0xFD && !t.flags.z && t.flags.n && t.cyc == 2) = true := by decide

/-- Vector L14. -/
theorem test_txs_writes_no_flag : nextMeets
    (start 0x0200 [(0x0200, 0x9A)])
    (fun t => t.sp == 0x00 && !t.flags.z && !t.flags.n && t.cyc == 2) = true := by decide

/-- Vector L15. -/
theorem test_sta_over_next_opcode : nextMeets
    { start 0x0200 [(0x0200, 0x8D), (0x0201, 0x03), (0x0202, 0x02), (0x0203, 0x02)] with a := 0xEA }
    (fun t => t.pc == 0x0203 && memRead t 0x0203 == 0xEA && t.cyc == 4) = true := by decide

/-! ### Arithmetic, logic, compares -/

/-- Vector B1. -/
theorem test_adc_signed_overflow : nextMeets
    { start 0x0200 [(0x0200, 0x69), (0x0201, 0x50)] with a := 0x50 }
    (fun t => t.a == 0xA0 && !t.flags.c && !t.flags.z && t.flags.v && t.flags.n && t.cyc == 2) = true := by decide

/-- Vector B8. -/
theorem test_sbc_borrow_in : nextMeets
    { start 0x0200 [(0x0200, 0xE9), (0x0201, 0x10)] with a := 0x50 }
    (fun t => t.a == 0x3F && t.flags.c && !t.flags.z && !t.flags.v && !t.flags.n && t.cyc == 2) = true := by decide

/-- Vector B9. -/
theorem test_sbc_signed_overflow : nextMeets
    { start 0x0200 [(0x0200, 0xE9), (0x0201, 0x01)] with
      a := 0x80, flags := { State.reset.flags with c := true } }
    (fun t => t.a == 0x7F && t.flags.c && !t.flags.z && t.flags.v && !t.flags.n && t.cyc == 2) = true := by decide

/-- Vector B12. -/
theorem test_cmp_less : nextMeets
    { start 0x0200 [(0x0200, 0xC9), (0x0201, 0x41)] with a := 0x40 }
    (fun t => t.a == 0x40 && !t.flags.c && !t.flags.z && t.flags.n && t.cyc == 2) = true := by decide

/-- Vector B15. -/
theorem test_cmp_leaves_v : nextMeets
    { start 0x0200 [(0x0200, 0xC9), (0x0201, 0x01)] with
      a := 0x80, flags := { State.reset.flags with v := true } }
    (fun t => t.a == 0x80 && t.flags.c && !t.flags.z && !t.flags.n && t.flags.v && t.cyc == 2) = true := by decide

/-- Vector B16. -/
theorem test_cpx_zp : nextMeets
    { start 0x0200 [(0x0020, 0x20), (0x0200, 0xE4), (0x0201, 0x20)] with x := 0x10 }
    (fun t => t.x == 0x10 && !t.flags.c && !t.flags.z && t.flags.n && t.cyc == 3) = true := by decide

/-- Vector B17. -/
theorem test_cpy_imm : nextMeets
    (start 0x0200 [(0x0200, 0xC0), (0x0201, 0x01)])
    (fun t => t.y == 0x00 && !t.flags.c && !t.flags.z && t.flags.n && t.cyc == 2) = true := by decide

/-- Vector B18. -/
theorem test_and_to_zero : nextMeets
    { start 0x0200 [(0x0200, 0x29), (0x0201, 0x0F)] with a := 0xF0 }
    (fun t => t.a == 0x00 && t.flags.z && !t.flags.n && t.cyc == 2) = true := by decide

/-- Vector B19. -/
theorem test_ora_sets_bit_seven : nextMeets
    { start 0x0200 [(0x0200, 0x09), (0x0201, 0x80)] with a := 0x01 }
    (fun t => t.a == 0x81 && !t.flags.z && t.flags.n && t.cyc == 2) = true := by decide

/-- Vector B20. -/
theorem test_eor_with_itself : nextMeets
    { start 0x0200 [(0x0200, 0x49), (0x0201, 0xFF)] with a := 0xFF }
    (fun t => t.a == 0x00 && t.flags.z && !t.flags.n && t.cyc == 2) = true := by decide

/-- Vector B22. -/
theorem test_bit_zp : nextMeets
    { start 0x0200 [(0x0010, 0x41), (0x0200, 0x24), (0x0201, 0x10)] with a := 0x01 }
    (fun t => t.a == 0x01 && !t.flags.z && !t.flags.n && t.flags.v && t.cyc == 3) = true := by decide

/-- Vector B23. -/
theorem test_bit_abs : nextMeets
    (start 0x0200 [(0x0200, 0x2C), (0x0201, 0x34), (0x0202, 0x12), (0x1234, 0xC0)])
    (fun t => t.a == 0x00 && t.flags.z && t.flags.n && t.flags.v && memRead t 0x1234 == 0xC0 && t.cyc == 4) = true := by
  decide

/-! ### Shifts, increments, decrements -/

/-- Vector H1. -/
theorem test_asl_a_to_zero : nextMeets
    { start 0x0200 [(0x0200, 0x0A)] with a := 0x80 }
    (fun t => t.a == 0x00 && t.flags.c && t.flags.z && !t.flags.n && t.cyc == 2) = true := by decide

/-- Vector H2. -/
theorem test_asl_zp : nextMeets
    { start 0x0200 [(0x0010, 0x40), (0x0200, 0x06), (0x0201, 0x10)] with a := 0x11 }
    (fun t => t.a == 0x11 && !t.flags.c && !t.flags.z && t.flags.n && memRead t 0x0010 == 0x80 && t.cyc == 5) = true := by
  decide

/-- Vector H3. -/
theorem test_lsr_a : nextMeets
    { start 0x0200 [(0x0200, 0x4A)] with a := 0x01, flags := { State.reset.flags with n := true } }
    (fun t => t.a == 0x00 && t.flags.c && t.flags.z && !t.flags.n && t.cyc == 2) = true := by decide

/-- Vector H4. -/
theorem test_lsr_absx : nextMeets
    { start 0x0200 [(0x0200, 0x5E), (0x0201, 0xFF), (0x0202, 0x12), (0x1300, 0x03)] with x := 0x01 }
    (fun t => t.flags.c && !t.flags.z && !t.flags.n && memRead t 0x1300 == 0x01 && t.cyc == 7) = true := by decide

/-- Vector H5. -/
theorem test_rol_a : nextMeets
    { start 0x0200 [(0x0200, 0x2A)] with a := 0x80, flags := { State.reset.flags with c := true } }
    (fun t => t.a == 0x01 && t.flags.c && !t.flags.z && !t.flags.n && t.cyc == 2) = true := by decide

/-- Vector H7. -/
theorem test_ror_a : nextMeets
    { start 0x0200 [(0x0200, 0x6A)] with a := 0x01, flags := { State.reset.flags with c := true } }
    (fun t => t.a == 0x80 && t.flags.c && !t.flags.z && t.flags.n && t.cyc == 2) = true := by decide

/-- Vector H8. -/
theorem test_ror_zp : nextMeets
    (start 0x0200 [(0x0010, 0x01), (0x0200, 0x66), (0x0201, 0x10)])
    (fun t => t.flags.c && t.flags.z && !t.flags.n && memRead t 0x0010 == 0x00 && t.cyc == 5) = true := by decide

/-- Vector H9. -/
theorem test_inc_wraps : nextMeets
    (start 0x0200 [(0x0010, 0xFF), (0x0200, 0xE6), (0x0201, 0x10)])
    (fun t => !t.flags.c && t.flags.z && !t.flags.n && memRead t 0x0010 == 0x00 && t.cyc == 5) = true := by decide

/-- Vector H11. -/
theorem test_dec_wraps : nextMeets
    (start 0x0200 [(0x0200, 0xCE), (0x0201, 0x34), (0x0202, 0x12)])
    (fun t => !t.flags.z && t.flags.n && memRead t 0x1234 == 0xFF && t.cyc == 6) = true := by decide

/-- Vector H12. -/
theorem test_inx_wraps : nextMeets
    { start 0x0200 [(0x0200, 0xE8)] with x := 0xFF }
    (fun t => t.x == 0x00 && t.flags.z && !t.flags.n && t.cyc == 2) = true := by decide

/-- Vector H13. -/
theorem test_iny : nextMeets
    { start 0x0200 [(0x0200, 0xC8)] with y := 0x7F }
    (fun t => t.y == 0x80 && !t.flags.z && t.flags.n && t.cyc == 2) = true := by decide

/-- Vector H14. -/
theorem test_dex : nextMeets
    { start 0x0200 [(0x0200, 0xCA)] with x := 0x01 }
    (fun t => t.x == 0x00 && t.flags.z && !t.flags.n && t.cyc == 2) = true := by decide

/-- Vector H15. -/
theorem test_dey_wraps : nextMeets
    (start 0x0200 [(0x0200, 0x88)])
    (fun t => t.y == 0xFF && !t.flags.z && t.flags.n && t.cyc == 2) = true := by decide

/-! ### Branches, jumps, calls, returns -/

/-- Vector D1. -/
theorem test_bpl_taken : nextMeets
    (start 0x0200 [(0x0200, 0x10), (0x0201, 0x05)])
    (fun t => t.pc == 0x0207 && t.cyc == 3) = true := by decide

/-- Vector D2. -/
theorem test_bmi_not_taken : nextMeets
    (start 0x0200 [(0x0200, 0x30), (0x0201, 0x05)])
    (fun t => t.pc == 0x0202 && t.cyc == 2) = true := by decide

/-- Vector D3. -/
theorem test_bvc_to_itself : nextMeets
    (start 0x0200 [(0x0200, 0x50), (0x0201, 0xFE)])
    (fun t => t.pc == 0x0200 && t.cyc == 3) = true := by decide

/-- Vector D4. -/
theorem test_bvs_taken : nextMeets
    { start 0x0300 [(0x0300, 0x70), (0x0301, 0x10)] with flags := { State.reset.flags with v := true } }
    (fun t => t.pc == 0x0312 && t.cyc == 3) = true := by decide

/-- Vector D5. -/
theorem test_bcc_backwards : nextMeets
    (start 0x0200 [(0x0200, 0x90), (0x0201, 0xFD)])
    (fun t => t.pc == 0x01FF && t.cyc == 4) = true := by decide

/-- Vector D6. -/
theorem test_bcs_taken : nextMeets
    { start 0x0200 [(0x0200, 0xB0), (0x0201, 0x7F)] with flags := { State.reset.flags with c := true } }
    (fun t => t.pc == 0x0281 && t.cyc == 3) = true := by decide

/-- Vector D10. -/
theorem test_beq_wraps_past_top : nextMeets
    { start 0xFFF0 [(0xFFF0, 0xF0), (0xFFF1, 0x20)] with flags := { State.reset.flags with z := true } }
    (fun t => t.pc == 0x0012 && t.cyc == 4) = true := by decide

/-- Vector D11. -/
theorem test_jmp_abs : nextMeets
    (start 0x0200 [(0x0200, 0x4C), (0x0202, 0x80)])
    (fun t => t.pc == 0x8000 && t.sp == 0xFD && t.cyc == 3) = true := by decide

/-- Vector D13. -/
theorem test_jsr : nextMeets
    (start 0x8000 [(0x8000, 0x20), (0x8002, 0x90)])
    (fun t => t.pc == 0x9000 && t.sp == 0xFB && memRead t 0x01FD == 0x80 && memRead t 0x01FC == 0x02 && t.cyc == 6) = true := by
  decide

/-- Vector D15. -/
theorem test_jsr_wraps_stack : nextMeets
    { start 0x8000 [(0x8000, 0x20), (0x8002, 0x90)] with sp := 0x00 }
    (fun t => t.pc == 0x9000 && t.sp == 0xFE && memRead t 0x0100 == 0x80 && memRead t 0x01FF == 0x02 && t.cyc == 6) = true := by
  decide

/-- Vector D16. -/
theorem test_rts_wraps_stack : nextMeets
    { start 0x9000 [(0x0100, 0x80), (0x01FF, 0x02), (0x9000, 0x60)] with sp := 0xFE }
    (fun t => t.pc == 0x8003 && t.sp == 0x00 && t.cyc == 6) = true := by decide

/-- Vector D17. -/
theorem test_rts_wraps_pc : nextMeets
    { start 0x9000 [(0x01FC, 0xFF), (0x01FD, 0xFF), (0x9000, 0x60)] with sp := 0xFB }
    (fun t => t.pc == 0x0000 && t.cyc == 6) = true := by decide

/-- Vector D18. -/
theorem test_rti : nextMeets
    { start 0x9000 [(0x01FB, 0xC3), (0x01FC, 0x34), (0x01FD, 0x12), (0x9000, 0x40)] with sp := 0xFA }
    (fun t => t.pc == 0x1234 && t.sp == 0xFD && t.flags.c && t.flags.z && !t.flags.i && !t.flags.d && !t.flags.b &&
      t.flags.v && t.flags.n && t.cyc == 6) = true := by decide

/-! ### Stack, flags, NOP, BRK -/

/-- Vector K1. -/
theorem test_pha : nextMeets
    { start 0x0200 [(0x0200, 0x48)] with a := 0x42 }
    (fun t => t.sp == 0xFC && memRead t 0x01FD == 0x42 && t.cyc == 3) = true := by decide

/-- Vector K2. -/
theorem test_pla : nextMeets
    { start 0x0200 [(0x01FD, 0x80), (0x0200, 0x68)] with sp := 0xFC }
    (fun t => t.a == 0x80 && t.sp == 0xFD && !t.flags.z && t.flags.n && t.cyc == 4) = true := by decide

/-- Vector K3. -/
theorem test_php_after_reset : nextMeets
    (start 0x0200 [(0x0200, 0x08)])
    (fun t => t.sp == 0xFC && memRead t 0x01FD == 0x24 && t.cyc == 3) = true := by decide

/-- Vector K6. -/
theorem test_plp : nextMeets
    { start 0x0200 [(0x01FD, 0xC3), (0x0200, 0x28)] with sp := 0xFC }
    (fun t => t.sp == 0xFD && t.flags.c && t.flags.z && !t.flags.i && !t.flags.d && !t.flags.b && t.flags.v &&
      t.flags.n && t.cyc == 4) = true := by decide

/-- Vector K7. -/
theorem test_phx_wraps : nextMeets
    { start 0x0200 [(0x0200, 0xDA)] with x := 0x11, sp := 0x00 }
    (fun t => t.sp == 0xFF && memRead t 0x0100 == 0x11 && t.cyc == 3) = true := by decide

/-- Vector K8. -/
theorem test_plx_wraps : nextMeets
    { start 0x0200 [(0x0200, 0xFA)] with sp := 0xFF }
    (fun t => t.x == 0x00 && t.sp == 0x00 && t.flags.z && !t.flags.n && t.cyc == 4) = true := by decide

/-- Vector K9. -/
theorem test_phy : nextMeets
    { start 0x0200 [(0x0200, 0x5A)] with y := 0x22 }
    (fun t => t.sp == 0xFC && memRead t 0x01FD == 0x22 && t.cyc == 3) = true := by decide

/-- Vector K10. -/
theorem test_ply : nextMeets
    { start 0x0200 [(0x01FD, 0xFF), (0x0200, 0x7A)] with sp := 0xFC }
    (fun t => t.y == 0xFF && t.sp == 0xFD && !t.flags.z && t.flags.n && t.cyc == 4) = true := by decide

/-- Vector K11. -/
theorem test_clc : nextMeets
    { start 0x0200 [(0x0200, 0x18)] with flags := { State.reset.flags with c := true } }
    (fun t => !t.flags.c && t.cyc == 2) = true := by decide

/-- Vector K12. -/
theorem test_sec : nextMeets
    (start 0x0200 [(0x0200, 0x38)])
    (fun t => t.flags.c && t.cyc == 2) = true := by decide

/-- Vector K13. -/
theorem test_cli : nextMeets
    (start 0x0200 [(0x0200, 0x58)])
    (fun t => !t.flags.i && t.cyc == 2) = true := by decide

/-- Vector K14. -/
theorem test_sei : nextMeets
    { start 0x0200 [(0x0200, 0x78)] with flags := { State.reset.flags with i := false } }
    (fun t => t.flags.i && t.cyc == 2) = true := by decide

/-- Vector K15. -/
theorem test_cld : nextMeets
    { start 0x0200 [(0x0200, 0xD8)] with flags := { State.reset.flags with d := true } }
    (fun t => !t.flags.d && t.cyc == 2) = true := by decide

/-- Vector K16. -/
theorem test_sed : nextMeets
    (start 0x0200 [(0x0200, 0xF8)])
    (fun t => t.flags.d && t.cyc == 2) = true := by decide

/-- Vector K17. -/
theorem test_clv : nextMeets
    { start 0x0200 [(0x0200, 0xB8)] with flags := { State.reset.flags with v := true } }
    (fun t => !t.flags.v && t.cyc == 2) = true := by decide

/-- Vector K18. -/
theorem test_nop : nextMeets
    (start 0x0200 [(0x0200, 0xEA)])
    (fun t => t.pc == 0x0201 && t.cyc == 2) = true := by decide

/-- Vector K19. -/
theorem test_brk : nextMeets
    { start 0x0200 [] with a := 0x77 }
    (fun t => t.pc == 0x0201 && t.sp == 0xFD && t.a == 0x77 && t.flags.i && !t.flags.b &&
      memRead t 0x01FD == 0x00 && memRead t 0x01FC == 0x00 && memRead t 0x01FB == 0x00 && t.brkHalt &&
      t.cyc == 7) = true := by decide

/-! ### Optional 65C02 instructions -/

/-- Vector X1. -/
theorem test_bra_illegal_by_default : nextMeets
    (start 0x0200 [(0x0200, 0x80), (0x0201, 0x10)])
    (fun t => t.pc == 0x0200 && t.illegal) = true := by decide

/-- Vector X2. -/
theorem test_bra : nextMeets
    (startC02 0x01F0 [(0x01F0, 0x80), (0x01F1, 0x10)])
    (fun t => t.pc == 0x0202 && t.cyc == 4) = true := by decide

/-- Vector X3. -/
theorem test_stz_zp : nextMeets
    (startC02 0x0200 [(0x0010, 0xAA), (0x0200, 0x64), (0x0201, 0x10)])
    (fun t => !t.flags.z && !t.flags.n && memRead t 0x0010 == 0x00 && t.cyc == 3) = true := by decide

/-- Vector X4. -/
theorem test_stz_absx : nextMeets
    { startC02 0x0200 [(0x0200, 0x9E), (0x0201, 0xFF), (0x0202, 0x12), (0x1300, 0xAA)] with x := 0x01 }
    (fun t => memRead t 0x1300 == 0x00 && t.cyc == 5) = true := by decide

/-- Vector X5. -/
theorem test_inc_a : nextMeets
    { startC02 0x0200 [(0x0200, 0x1A)] with a := 0x7F }
    (fun t => t.a == 0x80 && !t.flags.z && t.flags.n && t.cyc == 2) = true := by decide

/-- Vector X6. -/
theorem test_dec_a : nextMeets
    { startC02 0x0200 [(0x0200, 0x3A)] with a := 0x01 }
    (fun t => t.a == 0x00 && t.flags.z && !t.flags.n && t.cyc == 2) = true := by decide

/-- Vector X7. -/
theorem test_bit_imm : nextMeets
    { startC02 0x0200 [(0x0200, 0x89), (0x0201, 0xF0)] with
      a := 0x0F, flags := { State.reset.flags with n := true, v := true } }
    (fun t => t.a == 0x0F && t.flags.z && t.flags.n && t.flags.v && t.cyc == 2) = true := by decide

/-- Vector X8. -/
theorem test_bit_zpx : nextMeets
    { startC02 0x0200 [(0x0011, 0x40), (0x0200, 0x34), (0x0201, 0x10)] with a := 0xFF, x := 0x01 }
    (fun t => !t.flags.z && !t.flags.n && t.flags.v && t.cyc == 4) = true := by decide

/-- Vector X9. -/
theorem test_bit_absx_crosses : nextMeets
    { startC02 0x0200 [(0x0200, 0x3C), (0x0201, 0xFF), (0x0202, 0x12), (0x1300, 0x81)] with
      a := 0x01, x := 0x01 }
    (fun t => !t.flags.z && t.flags.n && !t.flags.v && t.cyc == 5) = true := by decide

/-- Vector X10. -/
theorem test_tsb : nextMeets
    { startC02 0x0200 [(0x0010, 0xF0), (0x0200, 0x04), (0x0201, 0x10)] with a := 0x0F }
    (fun t => t.a == 0x0F && t.flags.z && !t.flags.n && memRead t 0x0010 == 0xFF && t.cyc == 5) = true := by decide

/-- Vector X11. -/
theorem test_trb : nextMeets
    { startC02 0x0200 [(0x0200, 0x1C), (0x0201, 0x34), (0x0202, 0x12), (0x1234, 0xFF)] with a := 0x0F }
    (fun t => t.a == 0x0F && !t.flags.z && !t.flags.n && memRead t 0x1234 == 0xF0 && t.cyc == 6) = true := by
  decide

/-! ### Illegal opcodes -/

/-- Vector E1. -/
theorem test_illegal_02 : nextMeets
    { start 0x0200 [(0x0200, 0x02)] with a := 0x12, x := 0x34, flags := { State.reset.flags with c := true } }
    (fun t => t.pc == 0x0200 && t.a == 0x12 && t.x == 0x34 && t.sp == 0xFD && t.flags.c && t.illegal) = true := by
  decide

/-- Vector E2. -/
theorem test_illegal_ff : nextMeets
    (start 0x0200 [(0x0200, 0xFF), (0x0201, 0xFF), (0x0202, 0xFF)])
    (fun t => t.pc == 0x0200 && t.illegal) = true := by decide

/-! ## Host calls -/

theorem test_reset_is_the_reset_of_a_constructed_machine : hostReset (construct {} []) = State.reset := by decide

/-- Vector Z1. -/
theorem test_reset_reads_vector :
    (hostReset { start 0x1234 [(0xFFFD, 0x80)] with
      a := 0x12, x := 0x34, y := 0x56, sp := 0x00, flags := unpack 0xFF, cyc := 3, brkHalt := true })
      = start 0x8000 [(0xFFFD, 0x80)] := by decide

/-- Vector Z7. -/
theorem test_set_pc_does_not_leave_halt :
    nextMeets (hostSetPc 0x0200 { start 0x0208 [(0x0200, 0xE8)] with illegal := true })
      (fun t => t.pc == 0x0200 && t.illegal && t.x == 0x00) = true := by decide

/-- Vector Z9. -/
theorem test_host_write_is_fetched :
    nextMeets (hostWrite 0x0200 0xE8 (start 0x0200 [(0x0200, 0xEA)])) (fun t => t.x == 0x01) = true := by decide

/-- Vectors Z5 and Z6. -/
theorem test_set_status : getStatus (setStatus 0x00 State.reset) = 0x20 ∧ getStatus (setStatus 0xFF State.reset) = 0xFF := by
  decide

/-- R115: `ZP_PTR_WRAP` false takes the high byte from 0x0100 (the other reading of vector A13). -/
theorem test_pointer_leaves_zero_page :
    nextMeets { start 0x0200 [(0x00FF, 0x34), (0x0100, 0x99), (0x0200, 0xA1), (0x0201, 0xFF), (0x9934, 0x5A)] with
      cfg := { zpPtrWrap := false } } (fun t => t.a == 0x5A) = true := by decide

/-- R112: `JMP_IND_PAGE_WRAP` true keeps the pointer in its page (the other reading of vector A17). -/
theorem test_jmp_ind_stays_in_page :
    nextMeets { start 0x0200 [(0x0200, 0x6C), (0x0201, 0xFF), (0x0202, 0x02), (0x02FF, 0x34), (0x0300, 0x12)] with
      cfg := { jmpIndPageWrap := true } } (fun t => t.pc == 0x6C34) = true := by decide

/-- Vector K3 with `PHP_FORCES_B`. -/
theorem test_php_forces_b :
    nextMeets { start 0x0200 [(0x0200, 0x08)] with cfg := { phpForcesB := true } }
      (fun t => memRead t 0x01FD == 0x34) = true := by decide

/-- R126 with `TICK_BIAS` 1: LDA immediate arms 1. -/
theorem test_tick_bias :
    nextMeets { start 0x0200 [(0x0200, 0xA9)] with cfg := { tickBias := 1 } } (fun t => t.cyc == 1) = true := by decide

/-! ## Witnesses: the hypotheses of every obligation can be met -/

/-- A state with memory, about to fetch `LDA $1234`. -/
def ready : State := start 0x0200 [(0x0200, 0xAD), (0x0201, 0x34), (0x0202, 0x12), (0x1234, 0x77)]

theorem witness_DecodeAfterEncode :
    (Instr.bra 0x80).wellFormed true = true ∧ (Instr.jsr 0xFFFF).wellFormed false = true := by decide

theorem witness_DecodedBytesAreTheEncoding : decode false [0xA9, 0x10, 0x33] = .ok (.ldaImm 0x10, [0x33]) := rfl

theorem witness_TableRowsAreConsistent :
    (lookup 0x00).isSome = true ∧ (lookup 0xA9).isSome = true ∧ (lookup 0xFE).isSome = true := by decide

theorem witness_StepRunsDecodedInstruction :
    ready.pcSeeded = true ∧ ready.cyc = 0 ∧ ready.brkHalt = false ∧ ready.illegal = false ∧
      decode ready.cfg.c02Extra [memRead ready ready.pc, memRead ready (ready.pc + 1), memRead ready (ready.pc + 2)]
        = .ok (.ldaAbs 0x1234, []) := ⟨rfl, rfl, rfl, rfl, rfl⟩

/-- Also where the instruction's bytes wrap past the top of memory. -/
theorem witness_StoredInstructionIsFetched :
    Memory.wf ready.mem = true ∧ (Instr.jsr 0x9000).wellFormed ready.cfg.c02Extra = true ∧
      (hostSetPc 0xFFFF ready).pcSeeded = true ∧ (hostSetPc 0xFFFF ready).cyc = 0 ∧
      (hostSetPc 0xFFFF ready).brkHalt = false ∧ (hostSetPc 0xFFFF ready).illegal = false := by decide

theorem witness_FetchedOperandIsInMemory : fetch ready = .ok (.ldaAbs 0x1234) ∧ 2 < lengthOf (.ldaAbs 0x1234) :=
  ⟨rfl, by decide⟩

theorem witness_IllegalOpcodeLatches_always :
    let s := start 0x0200 [(0x0200, 0x02)]
    s.pcSeeded = true ∧ s.cyc = 0 ∧ s.brkHalt = false ∧ s.illegal = false ∧ memRead s s.pc ∈ alwaysIllegal := by decide

theorem witness_IllegalOpcodeLatches_optional :
    let s := start 0xFFFF [(0xFFFF, 0x9E)]
    s.pcSeeded = true ∧ s.cyc = 0 ∧ s.brkHalt = false ∧ s.illegal = false ∧ s.cfg.c02Extra = false ∧
      memRead s s.pc ∈ optionalBytes := by decide

theorem witness_BurnTickOnlyDecrements : { ready with cyc := 1 }.pcSeeded = true ∧ 0 < { ready with cyc := 1 }.cyc := by
  decide

theorem witness_HaltedTickChangesNothing :
    ready.pcSeeded = true ∧ ready.cyc = 0 ∧ { ready with brkHalt := true }.brkHalt = true ∧
      { ready with illegal := true }.illegal = true := by decide

theorem witness_UnseededTickIsRefused : (construct {} []).pcSeeded = false := rfl

theorem witness_BurnTicksReachTheNextFetch : { ready with cyc := 7 }.pcSeeded = true := rfl

theorem witness_StepKeepsInvariant : Inv ready ∧ ∃ t, step ready = .next t :=
  ⟨⟨by decide, by decide, by decide, by decide⟩, _, rfl⟩

/-- Both latches of an invariant state, each alone. -/
theorem witness_Inv_with_latches :
    Inv { ready with brkHalt := true, cyc := 7 } ∧ Inv { ready with illegal := true, bonus := 2 } :=
  ⟨⟨by decide, by decide, by decide, by decide⟩, ⟨by decide, by decide, by decide, by decide⟩⟩

theorem witness_ResetHasInvariant : Memory.wf ready.mem = true := by decide

theorem witness_CycleCounterStaysInRange :
    CycleRange { ready with cyc := 7 } ∧
      ∃ t, runCalls [.tick, .reset, .hostWrite 0x10000 0x1FF] { ready with cyc := 7 } = .next t :=
  ⟨⟨rfl, by decide⟩, _, rfl⟩

theorem witness_ParametersAreFixed : ∃ t, runCalls [.setStatus 0xFF, .setPc 0x0200, .tick] ready = .next t := ⟨_, rfl⟩

theorem witness_OnlyResetLeavesTheHaltedState :
    HostCall.reset ∉ [HostCall.tick, .setPc 0x0200, .tick] ∧ { ready with brkHalt := true }.pcSeeded = true ∧
      { ready with brkHalt := true }.brkHalt = true ∧ { ready with illegal := true }.illegal = true := by decide

theorem witness_LatchesHaveTheirCauses_brk :
    ∃ t, step (start 0x0200 []) = .next t ∧ t.brkHalt = true := ⟨_, rfl, rfl⟩

theorem witness_LatchesHaveTheirCauses_illegal :
    ∃ t, step (start 0x0200 [(0x0200, 0x80)]) = .next t ∧ t.illegal = true := ⟨_, rfl, rfl⟩

/-- Both cases of a read after a host write: addresses equal modulo 65536, and not. -/
theorem witness_HostAccessorsTouchTheirField :
    Memory.wf ready.mem = true ∧ 0x10200 % 65536 = 0x0200 % 65536 ∧ 0x0201 % 65536 ≠ 0x0200 % 65536 := by decide

/-- A crossing on the boundary, and none just below it. -/
theorem witness_AbsoluteIndexingCrosses_boundary :
    crossed (.absx 0x12FF) { ready with x := 0x01 } = true ∧ crossed (.absx 0x12FE) { ready with x := 0x01 } = false ∧
      effAddr (.absx 0xFFFF) { ready with x := 0x01 } = 0x0000 := by decide

/-- A pointer at the end of the zero page, with the parameter at both values. -/
theorem witness_PointerModesDereference_boundary :
    let m := [(0x0000, 0x12), (0x00FF, 0x34), (0x0100, 0x99)]
    effAddr (.indy 0xFF) (start 0x0200 m) = 0x1234 ∧
      effAddr (.indy 0xFF) { start 0x0200 m with cfg := { zpPtrWrap := false } } = 0x9934 := by decide

theorem witness_RelativeTargetIsSigned_boundary :
    effAddr (.rel 0x7F) ready = 0x0281 ∧ effAddr (.rel 0x80) ready = 0x0182 := by decide

theorem witness_StoresWriteOneByte : Memory.wf ready.mem = true ∧ effAddr (.zpx 0xFF) { ready with x := 0x01 } = 0x0000 := by
  decide

theorem witness_AdcAndSbcAreExact :
    (∃ t, exec (.adcImm 0x50) { ready with a := 0x50 } = .next t ∧ t.flags.v = true) ∧
      ∃ u, exec (.sbcImm 0x50) { ready with a := 0x50 } = .next u ∧ u.flags.c = false := ⟨⟨_, rfl, rfl⟩, _, rfl, rfl⟩

theorem witness_ShiftsMoveOneBitThroughCarry : Memory.wf { ready with flags := unpack 0xFF }.mem = true := by decide

theorem witness_IncDecModifyAndSetZN : Memory.wf ready.mem = true ∧ memRead ready 0x1234 = 0x77 := by decide

theorem witness_TestAndSetResetBits : Memory.wf (startC02 0x0200 [(0x0010, 0xF0)]).mem = true := by decide

/-- No hypothesis: the three cases of a branch on concrete states. -/
theorem witness_BranchesTestTheirFlag_cases :
    (∃ t, exec (.beq 0x10) { start 0x01F0 [] with flags := unpack 0x02 } = .next t ∧ t.pc = 0x0202 ∧ t.bonus = 2) ∧
      (∃ t, exec (.beq 0x7F) { start 0x0200 [] with flags := unpack 0x02 } = .next t ∧ t.pc = 0x0281 ∧ t.bonus = 1) ∧
      ∃ t, exec (.beq 0x10) (start 0x01F0 []) = .next t ∧ t.pc = 0x01F2 ∧ t.bonus = 0 :=
  ⟨⟨_, rfl, by decide, by decide⟩, ⟨_, rfl, by decide, by decide⟩, ⟨_, rfl, by decide, by decide⟩⟩

theorem witness_JsrPushesReturnAddress : Memory.wf { ready with sp := 0x00 }.mem = true := by decide

theorem witness_JsrThenRtsReturnsBehindTheCall : Memory.wf { ready with sp := 0x00, pc := 0xFFFE }.mem = true := by decide

theorem witness_PushesStoreOnTheStack : Memory.wf { ready with sp := 0x00, flags := unpack 0xFF }.mem = true := by decide

theorem witness_PullTakesWhatPushLeft :
    Memory.wf { ready with sp := 0x00 }.mem = true ∧ ready.cfg.phpForcesB = false := by decide

theorem witness_RegistersHaveTheirWriters :
    (∃ t, exec (.ldaImm 0x01) ready = .next t ∧ t.a ≠ ready.a) ∧ (∃ t, exec .incA ready = .next t ∧ t.a ≠ ready.a) ∧
      (∃ t, exec .inx ready = .next t ∧ t.x ≠ ready.x) ∧ (∃ t, exec .dey ready = .next t ∧ t.y ≠ ready.y) ∧
      ∃ t, exec (.jsr 0x9000) ready = .next t ∧ t.sp ≠ ready.sp :=
  ⟨⟨_, rfl, by decide⟩, ⟨_, rfl, by decide⟩, ⟨_, rfl, by decide⟩, ⟨_, rfl, by decide⟩, ⟨_, rfl, by decide⟩⟩

theorem witness_FlagsHaveTheirWriters :
    (∃ t, exec .sec ready = .next t ∧ t.flags.c ≠ ready.flags.c) ∧
      (∃ t, exec .cli ready = .next t ∧ t.flags.i ≠ ready.flags.i) ∧
      (∃ t, exec .sed ready = .next t ∧ t.flags.d ≠ ready.flags.d) ∧
      (∃ t, exec .plp { ready with mem := [(0x01FE, 0x10)] } = .next t ∧ t.flags.b ≠ ready.flags.b) ∧
      (∃ t, exec (.bitZp 0x10) { ready with mem := [(0x0010, 0x40)] } = .next t ∧ t.flags.v ≠ ready.flags.v) ∧
      (∃ t, exec (.ldaImm 0x00) ready = .next t ∧ t.flags.z ≠ ready.flags.z) ∧
      (∃ t, exec (.ldaImm 0x80) ready = .next t ∧ t.flags.n ≠ ready.flags.n) ∧
      ∃ t, exec (.bitZp 0x10) { ready with mem := [(0x0010, 0x80)] } = .next t ∧ t.flags.n ≠ ready.flags.n :=
  ⟨⟨_, rfl, by decide⟩, ⟨_, rfl, by decide⟩, ⟨_, rfl, by decide⟩, ⟨_, rfl, by decide⟩, ⟨_, rfl, by decide⟩,
    ⟨_, rfl, by decide⟩, ⟨_, rfl, by decide⟩, ⟨_, rfl, by decide⟩⟩

theorem witness_MemoryHasItsWriters :
    (∃ t, exec (.incAbs 0x1234) ready = .next t ∧ t.mem ≠ ready.mem) ∧
      ∃ t, exec .php { ready with sp := 0x00 } = .next t ∧ t.mem ≠ ready.mem ∧ Memory.wf ready.mem = true ∧
        memRead t 0x0100 ≠ memRead ready 0x0100 :=
  ⟨⟨_, rfl, by decide⟩, ⟨_, rfl, by decide, by decide, by decide⟩⟩

theorem witness_DecimalAndInterruptFlagsAreInert :
    (Instr.adcImm 0x01).mnemonic ≠ .php ∧ (∃ t, exec (.adcImm 0x01) ready = .next t) ∧ ∃ t, exec .cld ready = .next t :=
  ⟨by decide, ⟨_, rfl⟩, ⟨_, rfl⟩⟩

theorem witness_ResultsDoNotDependOnTiming :
    AgreeButTiming ready { ready with
      cyc := 3
      bonus := 1
      cfg := { tickBias := 1, baseCycles := [(0xAD, 7)], pageCross := [(0xBD, false)] } } := rfl

theorem witness_CrossingPaysForListedForms :
    ready.cfg.pageCross = [] ∧
      (∃ t, exec (.ldaAbsX 0x12FF) { ready with x := 0x01 } = .next t ∧ t.bonus ≠ ready.bonus) ∧
      ∃ t, exec (.bne 0x80) ready = .next t ∧ t.bonus ≠ ready.bonus :=
  ⟨rfl, ⟨_, rfl, by decide⟩, ⟨_, rfl, by decide⟩⟩

end Sys2Proof.Tests
end

section
/-! SUPPORT. The packed status byte bit by bit (R26 to R29 of `10_state.md`), and O21. Everything follows from one
lemma, that the weighted sum of R28 spells the list `statusBits`. -/

namespace Sys2Proof.Machine

/-- The bits of the packed status from bit 0 up, with bit 5 always set (R26, R27). -/
def statusBits (f : Flags) : List Bool := [f.c, f.z, f.i, f.d, f.b, true, f.v, f.n]

/-- The sum of R28 has distinct powers of two as weights and stays below 256, so reducing it to a byte loses nothing. -/
theorem pack_eq_ofBoolListLE (f : Flags) : pack f = BitVec.ofBoolListLE (statusBits f) := by
  apply BitVec.eq_of_toNat_eq
  have hc := f.c.toNat_le
  have hz := f.z.toNat_le
  have hi := f.i.toNat_le
  have hd := f.d.toNat_le
  have hb := f.b.toNat_le
  have hv := f.v.toNat_le
  have hn := f.n.toNat_le
  simp only [pack, statusBits, BitVec.toNat_ofNat, BitVec.ofBoolListLE, BitVec.toNat_concat, List.length_nil,
    Bool.toNat_true]
  omega

theorem pack_getLsbD (f : Flags) (k : Nat) : (pack f).getLsbD k = (statusBits f).getD k false := by
  rw [pack_eq_ofBoolListLE]
  exact BitVec.getLsbD_ofBoolListLE

@[simp] theorem unpack_pack (f : Flags) : unpack (pack f) = f := by
  simp only [unpack, pack_getLsbD]
  rfl

/-- Bit 5 of `v` is the one bit `unpack` drops; `pack` puts a 1 there. -/
theorem statusBits_unpack (v : Byte) : statusBits (unpack v) =
    [v.getLsbD 0, v.getLsbD 1, v.getLsbD 2, v.getLsbD 3, v.getLsbD 4, true, v.getLsbD 6, v.getLsbD 7] := rfl

@[simp] theorem pack_unpack (v : Byte) : pack (unpack v) = v ||| 0x20 := by
  apply BitVec.eq_of_getLsbD_eq
  intro k hk
  rw [pack_getLsbD, statusBits_unpack]
  interval_cases k <;> simp

end Sys2Proof.Machine

namespace Sys2Proof

open Machine

/-- Settles O21: each clause about a bit is `pack_getLsbD` at that bit, and the two round trips are `unpack_pack` and
`pack_unpack`. -/
theorem statusPacksAndUnpacks : Obligations.StatusPacksAndUnpacks :=
  ⟨fun f => ⟨pack_getLsbD f 0, pack_getLsbD f 1, pack_getLsbD f 2, pack_getLsbD f 3, pack_getLsbD f 4,
    pack_getLsbD f 5, pack_getLsbD f 6, pack_getLsbD f 7, unpack_pack f⟩, pack_unpack⟩

end Sys2Proof
end

section
/-! SUPPORT. The addressing modes as numbers (R104 to R116 of `40_addressing_modes.md`), and O24, O25, O23, O26. What the
modes share is said once: adding an index to an address, the crossing that addition makes, adding a signed operand, and
reading a little-endian pointer. -/

namespace Sys2Proof.Machine

/-! ## Adding an index or a signed operand -/

theorem toNat_add_zext16 (w : Word) (i : Byte) : (w + zext16 i).toNat = (w.toNat + i.toNat) % 65536 := by
  simp only [BitVec.toNat_add, toNat_zext16]

/-- The page of the sum wraps modulo 256 with the address, so it differs from the base's page for a carry out of the
low byte at the top of memory too (R116). -/
theorem hi_add_zext16_bne_iff (w : Word) (i : Byte) :
    (hi (w + zext16 i) != hi w) = true ↔ 0x100 ≤ w.toNat % 256 + i.toNat := by
  have hw := w.isLt
  have hindex := i.isLt
  rw [bne_iff_ne, ne_eq, hi_eq_iff, toNat_add_zext16]
  omega

theorem toNat_add_sext16 (w : Word) (d : Byte) : ((w + sext16 d).toNat : Int) = (w.toNat + d.toInt) % 65536 := by
  have hd := d.isLt
  rw [BitVec.toNat_add, BitVec.toInt_eq_toNat_cond, sext16]
  split
  · rw [if_pos (by omega), toNat_zext16]
    omega
  · have hFF00 : (0xFF00 : Word).toNat = 0xFF00 := rfl
    rw [if_neg (by omega), BitVec.toNat_add, toNat_zext16, hFF00]
    omega

/-! ## Reading a pointer -/

theorem memRead_eq_of_toNat (s : State) {a : Word} {k : Nat} (h : a.toNat = k) :
    memRead s a = memRead s (BitVec.ofNat 16 k) := by
  rw [← h, BitVec.ofNat_toNat, BitVec.setWidth_eq]

/-- A pointer assembled from two cells, with the cells' addresses given as numbers (R7, R10). -/
theorem toNat_cat_memRead (s : State) {high low : Word} {h l : Nat} (hh : high.toNat = h) (hl : low.toNat = l) :
    (cat (memRead s high) (memRead s low)).toNat =
      256 * (memRead s (BitVec.ofNat 16 h)).toNat + (memRead s (BitVec.ofNat 16 l)).toNat := by
  rw [toNat_cat, memRead_eq_of_toNat s hh, memRead_eq_of_toNat s hl, Nat.mul_comm]

/-- R115, both values of `ZP_PTR_WRAP`. -/
theorem toNat_zpRead16 (s : State) {z : Byte} {k : Nat} (hz : z.toNat = k) :
    (zpRead16 s z).toNat =
      256 * (memRead s (BitVec.ofNat 16 (if s.cfg.zpPtrWrap then (k + 1) % 256 else k + 1))).toNat +
        (memRead s (BitVec.ofNat 16 k)).toNat := by
  have hlt := z.isLt
  refine toNat_cat_memRead s ?_ ((toNat_zext16 z).trans hz)
  split
  · rw [toNat_zext16, BitVec.toNat_add, hz]
    rfl
  · rw [BitVec.toNat_add, toNat_zext16, hz]
    exact Nat.mod_eq_of_lt (show k + 1 < 65536 by omega)

/-- R112, both values of `JMP_IND_PAGE_WRAP`: the high byte's cell stays in the page of `w`, or follows `w`. -/
theorem toNat_indirectHighAddr (s : State) (w : Word) :
    (indirectHighAddr s w).toNat =
      if s.cfg.jmpIndPageWrap then w.toNat / 256 * 256 + (w.toNat + 1) % 256 else (w.toNat + 1) % 65536 := by
  rw [indirectHighAddr]
  split
  · rw [toNat_cat, toNat_hi, BitVec.toNat_add, toNat_lo]
    exact congrArg _ (Nat.mod_add_mod w.toNat 256 1)
  · exact BitVec.toNat_add w 1

theorem toNat_memRead16 (s : State) {a : Word} {k : Nat} (ha : a.toNat = k) :
    (memRead16 s a).toNat =
      256 * (memRead s (BitVec.ofNat 16 ((k + 1) % 65536))).toNat + (memRead s (BitVec.ofNat 16 k)).toNat :=
  toNat_cat_memRead s (by rw [BitVec.toNat_add, ha]; rfl) ha

end Sys2Proof.Machine

namespace Sys2Proof

open Machine

/-- Settles O24: both indexed modes add a zero-extended byte, and their `crossed` compares the page of that sum with the
base's. -/
theorem absoluteIndexingCrosses : Obligations.AbsoluteIndexingCrosses := fun s w =>
  ⟨rfl, rfl, toNat_add_zext16 w s.x, toNat_add_zext16 w s.y, hi_add_zext16_bne_iff w s.x, hi_add_zext16_bne_iff w s.y⟩

/-- Settles O25: each mode is a pointer read at the address its rule computes; (zp),Y then adds `y` as an absolute mode
adds its index. -/
theorem pointerModesDereference : Obligations.PointerModesDereference := by
  intro s b w at_ next zx base p above
  have hbase : (zpRead16 s b).toNat = base := toNat_zpRead16 s rfl
  refine ⟨toNat_zpRead16 s (BitVec.toNat_add b s.x), ?indyAddress,
    toNat_cat_memRead s (toNat_indirectHighAddr s w) rfl, toNat_memRead16 s (toNat_add_zext16 w s.x), ?indyCrossing,
    rfl, rfl, rfl⟩
  case indyAddress =>
    rw [← hbase]
    exact toNat_add_zext16 _ s.y
  case indyCrossing =>
    rw [← hbase]
    exact hi_add_zext16_bne_iff _ s.y

/-- Settles O23: the index is added in a byte, before the zero extension. -/
theorem zeroPageIndexingWraps : Obligations.ZeroPageIndexingWraps := fun s b =>
  have indexed (i : Byte) : (zext16 (b + i)).toNat = (b.toNat + i.toNat) % 256 := by
    rw [toNat_zext16, BitVec.toNat_add]
  ⟨toNat_zext16 b, indexed s.x, indexed s.y, rfl, rfl, rfl⟩

/-- Settles O26: `pc0 + 2` wraps before the signed operand is added, and the outer reduction absorbs that wrap. -/
theorem relativeTargetIsSigned : Obligations.RelativeTargetIsSigned := by
  intro s b
  refine ⟨?_, rfl⟩
  have hnext : (s.pc + 2).toNat = (s.pc.toNat + 2) % 65536 := BitVec.toNat_add s.pc 2
  calc ((s.pc + 2 + sext16 b).toNat : Int)
      = ((s.pc + 2).toNat + b.toInt) % 65536 := toNat_add_sext16 _ b
    _ = (s.pc.toNat + 2 + b.toInt) % 65536 := by rw [hnext]; omega

end Sys2Proof
end

section
/-! SUPPORT. O10 and O11: the burn tick and the halted tick (R121, R129). What a tick does in each of its cases is said
in `Laws/Tick.lean`; what is missing is that `SetPC` and `SetStatus` keep both latches. -/

namespace Sys2Proof.Machine

@[simp] theorem hostSetPc_brkHalt (addr : Nat) (s : State) : (hostSetPc addr s).brkHalt = s.brkHalt := rfl
@[simp] theorem hostSetPc_illegal (addr : Nat) (s : State) : (hostSetPc addr s).illegal = s.illegal := rfl
@[simp] theorem setStatus_brkHalt (v : Byte) (s : State) : (setStatus v s).brkHalt = s.brkHalt :=
  setFlags_brkHalt (unpack v) s
@[simp] theorem setStatus_illegal (v : Byte) (s : State) : (setStatus v s).illegal = s.illegal :=
  setFlags_illegal (unpack v) s

end Sys2Proof.Machine

namespace Sys2Proof

open Machine

/-- Settles O10: the state the obligation writes out is `burn s`, the answer of a burn tick. -/
theorem burnTickOnlyDecrements : Obligations.BurnTickOnlyDecrements := fun _ hseeded hcyc =>
  step_burn hseeded hcyc

/-- Settles O11: a set latch is what `halted` tests, and neither host call writes a latch. -/
theorem haltedTickChangesNothing : Obligations.HaltedTickChangesNothing := fun s hseeded hcyc hlatch =>
  ⟨step_halted hseeded hcyc ((halted_iff s).mpr hlatch), fun addr v =>
    ⟨hostSetPc_brkHalt addr s, hostSetPc_illegal addr s, setStatus_brkHalt v s, setStatus_illegal v s⟩⟩

end Sys2Proof
end

section
/-! SUPPORT. Loads, stores and transfers (R141 to R152 of `42_load_store_transfer.md`, R272 of `47_c02_optional.md`):
O27, O28 and O29. Each of their handlers ignores what lines 7 and 8 of R123 did before it ran. For such a handler every
shape of an instruction answers the state that `finished` describes. -/

namespace Sys2Proof.Claims

open Machine

/-! ## Handlers that ignore `pc` and `bonus` -/

/-- The handler neither reads nor writes `pc` and `bonus`, and leaves the parameters alone. -/
structure IgnoresProgress (h : State → State) : Prop where
  commutes : ∀ s pc bonus, h { s with pc := pc, bonus := bonus } = { h s with pc := pc, bonus := bonus }
  keepsCfg : ∀ s, (h s).cfg = s.cfg

/-- Such a handler may as well run in the state before the instruction; what it leaves is then finished. -/
theorem rearm_eq_finished {h : State → State} (hh : IgnoresProgress h) (op : Byte) (pc : Word) (extra : Nat)
    (s : State) :
    rearm op (h { s with pc := pc, bonus := s.bonus + extra }) = finished op pc extra s (h s) := by
  rw [hh.commutes, rearm_eq]
  simp only [finished, hh.keepsCfg]

theorem runImplied_eq_finished {h : State → State} (hh : IgnoresProgress h) (op : Byte) (s : State) :
    runImplied op h s = finished op (s.pc + BitVec.ofNat 16 1) 0 s (h s) :=
  rearm_eq_finished hh op _ 0 s

theorem runImm_eq_finished {h : Byte → State → State} {b : Byte} (hh : IgnoresProgress (h b)) (op : Byte)
    (s : State) :
    runImm op b h s = finished op (s.pc + BitVec.ofNat 16 2) 0 s (h b s) :=
  rearm_eq_finished hh op _ 0 s

/-! ## Instructions without a memory operand -/

theorem completes_of_runImplied {i : Instr} {op : Byte} {base : Nat} {h : State → State} {s after : State}
    (hh : IgnoresProgress h) (hrow : Encoded i op base) (hexec : exec i s = .next (runImplied op h s))
    (hafter : h s = after) : Completes i op 1 base s after :=
  ⟨hrow, by rw [hexec, runImplied_eq_finished hh, hafter]⟩

theorem completes_of_runImm {i : Instr} {op b : Byte} {base : Nat} {h : Byte → State → State} {s after : State}
    (hh : IgnoresProgress (h b)) (hrow : Encoded i op base) (hexec : exec i s = .next (runImm op b h s))
    (hafter : h b s = after) : Completes i op 2 base s after :=
  ⟨hrow, by rw [hexec, runImm_eq_finished hh, hafter]⟩

/-! ## Forms with a memory operand -/

/-- The columns of a form that depend on no state: its opcode is that of its instruction, its base count and `+p` are
those of the default tables, its length is that of its mode. -/
def FormRow.Tabled : FormRow → Prop
  | ⟨instr, opcode, mode, length, base, plusP⟩ =>
    (opcodeOf instr, baseCycles {} opcode, paysCrossing {} opcode, mode.length) = (opcode, base, plusP, length)

theorem FormRow.tabled_iff (f : FormRow) : f.Tabled ↔
    Encoded f.instr f.opcode f.base ∧ paysCrossing {} f.opcode = f.plusP ∧ f.mode.length = f.length := by
  cases f
  simp only [FormRow.Tabled, Encoded, Prod.mk.injEq, and_assoc]

/-- Lines 7 and 8 of R123 for a form: `pc` behind it and its extra cycles in `bonus`. -/
theorem FormRow.Tabled.enter_eq {f : FormRow} (hf : f.Tabled) (s : State) :
    enter f.opcode f.mode s =
      { s with pc := s.pc + BitVec.ofNat 16 f.length, bonus := s.bonus + f.extra s } := by
  obtain ⟨-, -, hlength⟩ := f.tabled_iff.mp hf
  simp only [Machine.enter_eq, hlength, FormRow.extra, Bool.and_eq_true]

theorem FormRow.Tabled.runRead_eq_finished {f : FormRow} {h : Byte → State → State} (hf : f.Tabled)
    (hh : ∀ m, IgnoresProgress (h m)) (s : State) :
    runRead f.opcode f.mode h s = finished f.opcode (s.pc + BitVec.ofNat 16 f.length) (f.extra s) s
      (h (memRead s (effAddr f.mode s)) s) := by
  rw [runRead, hf.enter_eq, rearm_eq_finished (hh _)]

theorem FormRow.Tabled.runAddr_eq_finished {f : FormRow} {h : Word → State → State} (hf : f.Tabled)
    (hh : ∀ addr, IgnoresProgress (h addr)) (s : State) :
    runAddr f.opcode f.mode h s = finished f.opcode (s.pc + BitVec.ofNat 16 f.length) (f.extra s) s
      (h (effAddr f.mode s) s) := by
  rw [runAddr, hf.enter_eq, rearm_eq_finished (hh _)]

/-- Forms that run one handler on the byte they read. -/
theorem readsOperand_of_runRead {forms : List FormRow} {h : Byte → State → State} {s : State}
    {after : Byte → State}
    (hh : ∀ m, IgnoresProgress (h m)) (hafter : ∀ m, h m s = after m)
    (hforms : forms.Forall fun f => f.Tabled ∧ exec f.instr s = .next (runRead f.opcode f.mode h s)) :
    ReadsOperand forms s after := by
  intro f hmem
  obtain ⟨hf, hexec⟩ := List.forall_iff_forall_mem.mp hforms f hmem
  obtain ⟨hencoded, hplusP, -⟩ := f.tabled_iff.mp hf
  exact ⟨hencoded, hplusP, by rw [hexec, hf.runRead_eq_finished hh, hafter]⟩

/-- Forms that run one handler on the address they compute, where the handler stores `v` there. -/
theorem storesRegister_of_runAddr {forms : List FormRow} {h : Word → State → State} {s : State} {v : Byte}
    (hwf : Memory.wf s.mem = true) (hh : ∀ addr, IgnoresProgress (h addr))
    (hstore : ∀ addr, h addr s = memWrite addr v s)
    (hforms : forms.Forall fun f => f.Tabled ∧ exec f.instr s = .next (runAddr f.opcode f.mode h s)) :
    StoresRegister forms s v := by
  intro f hmem
  obtain ⟨hf, hexec⟩ := List.forall_iff_forall_mem.mp hforms f hmem
  obtain ⟨hencoded, hplusP, -⟩ := f.tabled_iff.mp hf
  rw [hf.runAddr_eq_finished hh, hstore] at hexec
  exact ⟨hplusP, hencoded, _, hexec, rfl, fun k => memRead_memWrite s _ k v hwf⟩

/-! ## The handlers of R141 to R152 and R272 -/

theorem ldaOp_ignoresProgress (m : Byte) : IgnoresProgress (ldaOp m) := ⟨fun _ _ _ => rfl, fun _ => rfl⟩
theorem ldxOp_ignoresProgress (m : Byte) : IgnoresProgress (ldxOp m) := ⟨fun _ _ _ => rfl, fun _ => rfl⟩
theorem ldyOp_ignoresProgress (m : Byte) : IgnoresProgress (ldyOp m) := ⟨fun _ _ _ => rfl, fun _ => rfl⟩
theorem staOp_ignoresProgress (addr : Word) : IgnoresProgress (staOp addr) := ⟨fun _ _ _ => rfl, fun _ => rfl⟩
theorem stxOp_ignoresProgress (addr : Word) : IgnoresProgress (stxOp addr) := ⟨fun _ _ _ => rfl, fun _ => rfl⟩
theorem styOp_ignoresProgress (addr : Word) : IgnoresProgress (styOp addr) := ⟨fun _ _ _ => rfl, fun _ => rfl⟩
theorem stzOp_ignoresProgress (addr : Word) : IgnoresProgress (stzOp addr) := ⟨fun _ _ _ => rfl, fun _ => rfl⟩
theorem taxOp_ignoresProgress : IgnoresProgress taxOp := ⟨fun _ _ _ => rfl, fun _ => rfl⟩
theorem tayOp_ignoresProgress : IgnoresProgress tayOp := ⟨fun _ _ _ => rfl, fun _ => rfl⟩
theorem txaOp_ignoresProgress : IgnoresProgress txaOp := ⟨fun _ _ _ => rfl, fun _ => rfl⟩
theorem tyaOp_ignoresProgress : IgnoresProgress tyaOp := ⟨fun _ _ _ => rfl, fun _ => rfl⟩
theorem tsxOp_ignoresProgress : IgnoresProgress tsxOp := ⟨fun _ _ _ => rfl, fun _ => rfl⟩
theorem txsOp_ignoresProgress : IgnoresProgress txsOp := ⟨fun _ _ _ => rfl, fun _ => rfl⟩

theorem ldaOp_eq (m : Byte) (s : State) : ldaOp m s = { s with a := m, flags := withZN s.flags m } :=
  setZN_eq m (setA m s)

theorem ldxOp_eq (m : Byte) (s : State) : ldxOp m s = { s with x := m, flags := withZN s.flags m } :=
  setZN_eq m (setX m s)

theorem ldyOp_eq (m : Byte) (s : State) : ldyOp m s = { s with y := m, flags := withZN s.flags m } :=
  setZN_eq m (setY m s)

end Sys2Proof.Claims

namespace Sys2Proof

open Machine Claims

/-- Settles O27: every form runs its register's load handler, on the immediate or on the byte its mode addresses. -/
theorem loadsWriteRegisterAndZN : Obligations.LoadsWriteRegisterAndZN := by
  intro s b w
  refine ⟨?ldaImm, ?ldxImm, ?ldyImm, ?lda, ?ldx, ?ldy⟩
  case ldaImm => exact completes_of_runImm (ldaOp_ignoresProgress b) ⟨rfl, rfl⟩ (exec_ldaImm b s) (ldaOp_eq b s)
  case ldxImm => exact completes_of_runImm (ldxOp_ignoresProgress b) ⟨rfl, rfl⟩ (exec_ldxImm b s) (ldxOp_eq b s)
  case ldyImm => exact completes_of_runImm (ldyOp_ignoresProgress b) ⟨rfl, rfl⟩ (exec_ldyImm b s) (ldyOp_eq b s)
  case lda =>
    exact readsOperand_of_runRead ldaOp_ignoresProgress (ldaOp_eq · s)
      ⟨⟨rfl, exec_ldaZp b s⟩, ⟨rfl, exec_ldaZpX b s⟩,
        ⟨rfl, exec_ldaAbs w s⟩, ⟨rfl, exec_ldaAbsX w s⟩,
        ⟨rfl, exec_ldaAbsY w s⟩, ⟨rfl, exec_ldaIndX b s⟩,
        ⟨rfl, exec_ldaIndY b s⟩⟩
  case ldx =>
    exact readsOperand_of_runRead ldxOp_ignoresProgress (ldxOp_eq · s)
      ⟨⟨rfl, exec_ldxZp b s⟩, ⟨rfl, exec_ldxZpY b s⟩,
        ⟨rfl, exec_ldxAbs w s⟩, ⟨rfl, exec_ldxAbsY w s⟩⟩
  case ldy =>
    exact readsOperand_of_runRead ldyOp_ignoresProgress (ldyOp_eq · s)
      ⟨⟨rfl, exec_ldyZp b s⟩, ⟨rfl, exec_ldyZpX b s⟩,
        ⟨rfl, exec_ldyAbs w s⟩, ⟨rfl, exec_ldyAbsX w s⟩⟩

/-- Settles O28: every form runs its register's store handler, which is one `memWrite`, at the address of its mode. -/
theorem storesWriteOneByte : Obligations.StoresWriteOneByte := by
  intro s b w hwf
  refine ⟨?sta, ?stx, ?sty, ?stz⟩
  case sta =>
    exact storesRegister_of_runAddr hwf staOp_ignoresProgress (fun _ => rfl)
      ⟨⟨rfl, exec_staZp b s⟩, ⟨rfl, exec_staZpX b s⟩,
        ⟨rfl, exec_staAbs w s⟩, ⟨rfl, exec_staAbsX w s⟩,
        ⟨rfl, exec_staAbsY w s⟩, ⟨rfl, exec_staIndX b s⟩,
        ⟨rfl, exec_staIndY b s⟩⟩
  case stx =>
    exact storesRegister_of_runAddr hwf stxOp_ignoresProgress (fun _ => rfl)
      ⟨⟨rfl, exec_stxZp b s⟩, ⟨rfl, exec_stxZpY b s⟩,
        ⟨rfl, exec_stxAbs w s⟩⟩
  case sty =>
    exact storesRegister_of_runAddr hwf styOp_ignoresProgress (fun _ => rfl)
      ⟨⟨rfl, exec_styZp b s⟩, ⟨rfl, exec_styZpX b s⟩,
        ⟨rfl, exec_styAbs w s⟩⟩
  case stz =>
    exact storesRegister_of_runAddr hwf stzOp_ignoresProgress (fun _ => rfl)
      ⟨⟨rfl, exec_stzZp b s⟩, ⟨rfl, exec_stzZpX b s⟩,
        ⟨rfl, exec_stzAbs w s⟩, ⟨rfl, exec_stzAbsX w s⟩⟩

/-- Settles O29: every transfer is implied, and all but TXS end with `SetZN` of the value they copy. -/
theorem transfersCopyRegister : Obligations.TransfersCopyRegister := fun s =>
  ⟨completes_of_runImplied taxOp_ignoresProgress ⟨rfl, rfl⟩ (exec_tax s) (setZN_eq s.a (setX s.a s)),
    completes_of_runImplied tayOp_ignoresProgress ⟨rfl, rfl⟩ (exec_tay s) (setZN_eq s.a (setY s.a s)),
    completes_of_runImplied txaOp_ignoresProgress ⟨rfl, rfl⟩ (exec_txa s) (setZN_eq s.x (setA s.x s)),
    completes_of_runImplied tyaOp_ignoresProgress ⟨rfl, rfl⟩ (exec_tya s) (setZN_eq s.y (setA s.y s)),
    completes_of_runImplied tsxOp_ignoresProgress ⟨rfl, rfl⟩ (exec_tsx s) (setZN_eq s.sp (setX s.sp s)),
    completes_of_runImplied txsOp_ignoresProgress ⟨rfl, rfl⟩ (exec_txs s) rfl⟩

end Sys2Proof
end

section
/-! SUPPORT. Arithmetic, logic, compares and bit test (R170 to R180 of `43_arithmetic_logic.md`, R276 of
`47_c02_optional.md`): O30, O31, O33, O34, O35 and O36. Their handlers ignore `pc` and `bonus` too, so each statement
comes down to one equation for its handler: the adder that ADC and SBC share, the three logic operations, the compare
that CMP, CPX and CPY share, and the two bit tests. -/

namespace Sys2Proof.Claims

open Machine

/-! ## The adder of R171 and R172 -/

theorem adcOp_ignoresProgress (m : Byte) : IgnoresProgress (adcOp m) := ⟨fun _ _ _ => rfl, fun _ => rfl⟩
theorem sbcOp_ignoresProgress (m : Byte) : IgnoresProgress (sbcOp m) := ⟨fun _ _ _ => rfl, fun _ => rfl⟩

/-- `AdcCore` as numbers: `t` is the sum with the carry, `r` the byte it leaves in `a` (R171). -/
theorem adcCore_eq_sum (m : Byte) (s : State) :
    adcCore m s =
      let t := m.toNat + s.a.toNat + s.flags.c.toNat
      let r : Byte := BitVec.ofNat 8 (t % 256)
      { s with
        a := r
        flags := withZN { s.flags with
          c := decide (0x100 ≤ t)
          v := decide ((0x80 ≤ m.toNat ↔ 0x80 ≤ s.a.toNat) ∧ ¬ (0x80 ≤ r.toNat ↔ 0x80 ≤ s.a.toNat)) } r } := by
  simp only [adcCore_eq, adcOverflow_eq, adcResult_eq]
  rfl

theorem xor_0xFF_eq (m : Byte) : m ^^^ 0xFF = BitVec.ofNat 8 (255 - m.toNat) := by
  have hnot : m ^^^ 0xFF = ~~~m := BitVec.xor_allOnes
  apply BitVec.eq_of_toNat_eq
  rw [hnot, BitVec.toNat_not, BitVec.toNat_ofNat]
  omega

theorem sbcOp_eq_adcOp (m : Byte) : sbcOp m = adcOp (BitVec.ofNat 8 (255 - m.toNat)) :=
  congrArg adcCore (xor_0xFF_eq m)

/-! ## The logic operations of R173 to R175 -/

theorem andOp_ignoresProgress (m : Byte) : IgnoresProgress (andOp m) := ⟨fun _ _ _ => rfl, fun _ => rfl⟩
theorem oraOp_ignoresProgress (m : Byte) : IgnoresProgress (oraOp m) := ⟨fun _ _ _ => rfl, fun _ => rfl⟩
theorem eorOp_ignoresProgress (m : Byte) : IgnoresProgress (eorOp m) := ⟨fun _ _ _ => rfl, fun _ => rfl⟩

theorem andOp_eq (m : Byte) (s : State) :
    andOp m s = { s with a := s.a &&& m, flags := withZN s.flags (s.a &&& m) } :=
  setZN_eq (s.a &&& m) (setA (s.a &&& m) s)

theorem oraOp_eq (m : Byte) (s : State) :
    oraOp m s = { s with a := s.a ||| m, flags := withZN s.flags (s.a ||| m) } :=
  setZN_eq (s.a ||| m) (setA (s.a ||| m) s)

theorem eorOp_eq (m : Byte) (s : State) :
    eorOp m s = { s with a := s.a ^^^ m, flags := withZN s.flags (s.a ^^^ m) } :=
  setZN_eq (s.a ^^^ m) (setA (s.a ^^^ m) s)

/-! ## The compares of R176 to R178 -/

theorem cmpOp_ignoresProgress (m : Byte) : IgnoresProgress (cmpOp m) := ⟨fun _ _ _ => rfl, fun _ => rfl⟩
theorem cpxOp_ignoresProgress (m : Byte) : IgnoresProgress (cpxOp m) := ⟨fun _ _ _ => rfl, fun _ => rfl⟩
theorem cpyOp_ignoresProgress (m : Byte) : IgnoresProgress (cpyOp m) := ⟨fun _ _ _ => rfl, fun _ => rfl⟩

/-! ## The bit tests of R179 and R276 -/

theorem bitOp_ignoresProgress (m : Byte) : IgnoresProgress (bitOp m) := ⟨fun _ _ _ => rfl, fun _ => rfl⟩
theorem bitImmOp_ignoresProgress (m : Byte) : IgnoresProgress (bitImmOp m) := ⟨fun _ _ _ => rfl, fun _ => rfl⟩

theorem testBits_eq (m : Byte) (s : State) :
    testBits m s = { s with flags := { s.flags with z := decide (s.a &&& m = 0) } } := rfl

theorem bitOp_eq (m : Byte) (s : State) :
    bitOp m s = { s with flags := { s.flags with
      z := decide (s.a &&& m = 0)
      n := decide (0x80 ≤ m.toNat)
      v := decide (0x40 ≤ m.toNat % 128) } } := by
  rw [bitOp, testBits_eq, bit7_eq, bit6_eq]
  rfl

end Sys2Proof.Claims

namespace Sys2Proof

open Machine Claims

/-- Settles O30: every form runs the adder on its operand, and `adcCore_eq_sum` says what the adder leaves. -/
theorem adcAddsWithCarry : Obligations.AdcAddsWithCarry := by
  intro s b w after
  refine ⟨?immediate, ?memory⟩
  case immediate =>
    exact completes_of_runImm (adcOp_ignoresProgress b) ⟨rfl, rfl⟩ (exec_adcImm b s) (adcCore_eq_sum b s)
  case memory =>
    exact readsOperand_of_runRead adcOp_ignoresProgress (adcCore_eq_sum · s)
      ⟨⟨rfl, exec_adcZp b s⟩, ⟨rfl, exec_adcZpX b s⟩,
        ⟨rfl, exec_adcAbs w s⟩, ⟨rfl, exec_adcAbsX w s⟩,
        ⟨rfl, exec_adcAbsY w s⟩, ⟨rfl, exec_adcIndX b s⟩,
        ⟨rfl, exec_adcIndY b s⟩⟩

/-- Settles O31: every form runs the same adder on the complement of its operand. -/
theorem sbcAddsTheComplement : Obligations.SbcAddsTheComplement := by
  intro s b w after
  have hafter (m : Byte) : sbcOp m s = after m := adcCore_eq_sum (m ^^^ 0xFF) s
  refine ⟨?immediate, ?memory⟩
  case immediate =>
    exact completes_of_runImm (sbcOp_ignoresProgress b) ⟨rfl, rfl⟩ (exec_sbcImm b s) (hafter b)
  case memory =>
    exact readsOperand_of_runRead sbcOp_ignoresProgress hafter
      ⟨⟨rfl, exec_sbcZp b s⟩, ⟨rfl, exec_sbcZpX b s⟩,
        ⟨rfl, exec_sbcAbs w s⟩, ⟨rfl, exec_sbcAbsX w s⟩,
        ⟨rfl, exec_sbcAbsY w s⟩, ⟨rfl, exec_sbcIndX b s⟩,
        ⟨rfl, exec_sbcIndY b s⟩⟩

/-- Settles O33: the two handlers are equal, and what follows a handler differs by the opcode in `cyc` alone. -/
theorem sbcIsAdcOfComplement : Obligations.SbcIsAdcOfComplement := by
  intro s v
  refine ⟨runImm 0xE9 v sbcOp s, _, exec_sbcImm v s, exec_adcImm _ s, ?_⟩
  rw [runImm_eq_finished (sbcOp_ignoresProgress v), runImm_eq_finished (adcOp_ignoresProgress _), sbcOp_eq_adcOp]
  rfl

/-- Settles O34: every form puts the result of its operation in `a` and sets Z and N from it. -/
theorem logicWritesAccumulatorAndZN : Obligations.LogicWritesAccumulatorAndZN := by
  intro s b w after
  refine ⟨?andImm, ?oraImm, ?eorImm, ?and, ?ora, ?eor⟩
  case andImm => exact completes_of_runImm (andOp_ignoresProgress b) ⟨rfl, rfl⟩ (exec_andImm b s) (andOp_eq b s)
  case oraImm => exact completes_of_runImm (oraOp_ignoresProgress b) ⟨rfl, rfl⟩ (exec_oraImm b s) (oraOp_eq b s)
  case eorImm => exact completes_of_runImm (eorOp_ignoresProgress b) ⟨rfl, rfl⟩ (exec_eorImm b s) (eorOp_eq b s)
  case and =>
    exact readsOperand_of_runRead andOp_ignoresProgress (andOp_eq · s)
      ⟨⟨rfl, exec_andZp b s⟩, ⟨rfl, exec_andZpX b s⟩,
        ⟨rfl, exec_andAbs w s⟩, ⟨rfl, exec_andAbsX w s⟩,
        ⟨rfl, exec_andAbsY w s⟩, ⟨rfl, exec_andIndX b s⟩,
        ⟨rfl, exec_andIndY b s⟩⟩
  case ora =>
    exact readsOperand_of_runRead oraOp_ignoresProgress (oraOp_eq · s)
      ⟨⟨rfl, exec_oraZp b s⟩, ⟨rfl, exec_oraZpX b s⟩,
        ⟨rfl, exec_oraAbs w s⟩, ⟨rfl, exec_oraAbsX w s⟩,
        ⟨rfl, exec_oraAbsY w s⟩, ⟨rfl, exec_oraIndX b s⟩,
        ⟨rfl, exec_oraIndY b s⟩⟩
  case eor =>
    exact readsOperand_of_runRead eorOp_ignoresProgress (eorOp_eq · s)
      ⟨⟨rfl, exec_eorZp b s⟩, ⟨rfl, exec_eorZpX b s⟩,
        ⟨rfl, exec_eorAbs w s⟩, ⟨rfl, exec_eorAbsX w s⟩,
        ⟨rfl, exec_eorAbsY w s⟩, ⟨rfl, exec_eorIndX b s⟩,
        ⟨rfl, exec_eorIndY b s⟩⟩

/-- Settles O35: every form is `compareWith` of its register, whose three flags `compareWith_eq` gives as numbers. -/
theorem comparesSetFlagsOnly : Obligations.ComparesSetFlagsOnly := by
  intro s b w after
  refine ⟨?cmpImm, ?cpxImm, ?cpyImm, ?cmp, ?cpx, ?cpy⟩
  case cmpImm =>
    exact completes_of_runImm (cmpOp_ignoresProgress b) ⟨rfl, rfl⟩ (exec_cmpImm b s) (compareWith_eq s.a b s)
  case cpxImm =>
    exact completes_of_runImm (cpxOp_ignoresProgress b) ⟨rfl, rfl⟩ (exec_cpxImm b s) (compareWith_eq s.x b s)
  case cpyImm =>
    exact completes_of_runImm (cpyOp_ignoresProgress b) ⟨rfl, rfl⟩ (exec_cpyImm b s) (compareWith_eq s.y b s)
  case cmp =>
    exact readsOperand_of_runRead cmpOp_ignoresProgress (compareWith_eq s.a · s)
      ⟨⟨rfl, exec_cmpZp b s⟩, ⟨rfl, exec_cmpZpX b s⟩,
        ⟨rfl, exec_cmpAbs w s⟩, ⟨rfl, exec_cmpAbsX w s⟩,
        ⟨rfl, exec_cmpAbsY w s⟩, ⟨rfl, exec_cmpIndX b s⟩,
        ⟨rfl, exec_cmpIndY b s⟩⟩
  case cpx =>
    exact readsOperand_of_runRead cpxOp_ignoresProgress (compareWith_eq s.x · s)
      ⟨⟨rfl, exec_cpxZp b s⟩, ⟨rfl, exec_cpxAbs w s⟩⟩
  case cpy =>
    exact readsOperand_of_runRead cpyOp_ignoresProgress (compareWith_eq s.y · s)
      ⟨⟨rfl, exec_cpyZp b s⟩, ⟨rfl, exec_cpyAbs w s⟩⟩

/-- Settles O36: the memory forms run `bitOp`; BIT # runs `bitImmOp`, which is the test of Z alone. -/
theorem bitTestsSetFlagsOnly : Obligations.BitTestsSetFlagsOnly := by
  intro s b w
  refine ⟨?immediate, ?memory⟩
  case immediate =>
    exact completes_of_runImm (bitImmOp_ignoresProgress b) ⟨rfl, rfl⟩ (exec_bitImm b s) (testBits_eq b s)
  case memory =>
    exact readsOperand_of_runRead bitOp_ignoresProgress (bitOp_eq · s)
      ⟨⟨rfl, exec_bitZp b s⟩, ⟨rfl, exec_bitZpX b s⟩,
        ⟨rfl, exec_bitAbs w s⟩, ⟨rfl, exec_bitAbsX w s⟩⟩

end Sys2Proof
end

section
/-! SUPPORT. Shifts, rotates, increments and decrements (R190 to R200 of `44_shift_incdec.md`, R274 and R275 of
`47_c02_optional.md`): O37, O38 and O39. A handler of R190 reads one operand, writes the same operand and sets flags.
What it leaves is said once for both places an operand can be, and the accumulator form and the memory forms of an
instruction follow from that one fact. -/

namespace Sys2Proof.Claims

open Machine

/-! ## Handlers that modify their operand (R190) -/

/-- In `s` the handler replaces its operand `m`, wherever that is, by `result m` and the flags by `flags m`, and its
effect does not depend on `pc` and `bonus`. -/
structure ModifiesOperand (h : EA → State → State) (s : State) (result : Byte → Byte) (flags : Byte → Flags) :
    Prop where
  ignoresProgress : ∀ ea, IgnoresProgress (h ea)
  eq : ∀ ea, h ea s = { opWrite ea (result (opRead ea s)) s with flags := flags (opRead ea s) }

section
variable {h : EA → State → State} {s : State} {result : Byte → Byte} {flags : Byte → Flags}

/-- The accumulator form: `a` is the operand. -/
theorem completes_of_runAcc {i : Instr} {op : Byte} {base : Nat} (hm : ModifiesOperand h s result flags)
    (hrow : Encoded i op base) (hexec : exec i s = .next (runAcc op h s)) :
    Completes i op 1 base s { s with a := result s.a, flags := flags s.a } :=
  completes_of_runImplied (hm.ignoresProgress .acc) hrow hexec (hm.eq .acc)

/-- The memory forms: the operand is the byte at the address of the mode. -/
theorem modifiesMemory_of_runModify {forms : List FormRow} (hwf : Memory.wf s.mem = true)
    (hm : ModifiesOperand h s result flags)
    (hforms : forms.Forall fun f => f.Tabled ∧ exec f.instr s = .next (runModify f.opcode f.mode h s)) :
    ModifiesMemory forms s result flags := by
  intro f hmem
  obtain ⟨hf, hexec⟩ := List.forall_iff_forall_mem.mp hforms f hmem
  obtain ⟨hencoded, hplusP, -⟩ := f.tabled_iff.mp hf
  have hrun := hf.runAddr_eq_finished (h := fun addr => h (.mem addr)) (hm.ignoresProgress <| .mem ·) s
  rw [hm.eq] at hrun
  exact ⟨hplusP, hencoded, _, hexec.trans (congrArg _ hrun), rfl, fun k => memRead_memWrite s _ k _ hwf⟩

end

/-! ## The handlers of R191 to R196 -/

theorem modifyOperand_ignoresProgress (f : Byte → Byte) : ∀ ea, IgnoresProgress (modifyOperand f ea)
  | .acc => ⟨fun _ _ _ => rfl, fun _ => rfl⟩
  | .mem _ => ⟨fun _ _ _ => rfl, fun _ => rfl⟩

theorem opWrite_flags (v : Byte) (s : State) : ∀ ea, (opWrite ea v s).flags = s.flags
  | .acc => setA_flags v s
  | .mem addr => memWrite_flags addr v s

theorem modifyOperand_eq (f : Byte → Byte) (ea : EA) (s : State) :
    modifyOperand f ea s =
      { opWrite ea (f (opRead ea s)) s with flags := withZN s.flags (f (opRead ea s)) } := by
  rw [modifyOperand, setZN_eq, opWrite_flags]
  rfl

theorem incOp_eq_modifyOperand : incOp = modifyOperand (· + 1) := rfl
theorem decOp_eq_modifyOperand : decOp = modifyOperand (· - 1) := rfl

/-- INC and DEC: Z and N are of the result, and no other flag is written (R195, R196). -/
theorem modifiesOperand_of_modifyOperand {f result : Byte → Byte} (s : State) (hresult : ∀ m, f m = result m) :
    ModifiesOperand (modifyOperand f) s result (fun m => withZN s.flags (result m)) where
  ignoresProgress := modifyOperand_ignoresProgress f
  eq ea := by rw [modifyOperand_eq, hresult]

/-- The pseudocode that R191 to R194 share: the operand is replaced by a value that may depend on the old carry, and
the carry becomes the operand's bit `k`. -/
def shiftOperand (k : Nat) (f : Bool → Byte → Byte) (ea : EA) (s : State) : State :=
  setC ((opRead ea s).getLsbD k) (modifyOperand (f s.flags.c) ea s)

theorem aslOp_eq_shiftOperand : aslOp = shiftOperand 7 fun _ => aslResult := rfl
theorem lsrOp_eq_shiftOperand : lsrOp = shiftOperand 0 fun _ => lsrResult := rfl
theorem rolOp_eq_shiftOperand : rolOp = shiftOperand 7 rolResult := rfl
theorem rorOp_eq_shiftOperand : rorOp = shiftOperand 0 rorResult := rfl

theorem shiftOperand_ignoresProgress (k : Nat) (f : Bool → Byte → Byte) : ∀ ea, IgnoresProgress (shiftOperand k f ea)
  | .acc => ⟨fun _ _ _ => rfl, fun _ => rfl⟩
  | .mem _ => ⟨fun _ _ _ => rfl, fun _ => rfl⟩

/-- A shift or rotate, with its result under the carry before the instruction and its carry out as the claim gives
them. -/
theorem modifiesOperand_of_shiftOperand {k : Nat} {f : Bool → Byte → Byte} {result : Byte → Byte}
    {carry : Byte → Bool} (s : State) (hresult : ∀ m, f s.flags.c m = result m)
    (hcarry : ∀ m, m.getLsbD k = carry m) :
    ModifiesOperand (shiftOperand k f) s result
      (fun m => withZN { s.flags with c := carry m } (result m)) where
  ignoresProgress := shiftOperand_ignoresProgress k f
  eq ea := by
    rw [shiftOperand, modifyOperand_eq, hresult, hcarry]
    rfl

/-! ## The handlers of R197 to R200: a load of the index register's successor or predecessor -/

theorem inxOp_ignoresProgress : IgnoresProgress inxOp := ⟨fun _ _ _ => rfl, fun _ => rfl⟩
theorem inyOp_ignoresProgress : IgnoresProgress inyOp := ⟨fun _ _ _ => rfl, fun _ => rfl⟩
theorem dexOp_ignoresProgress : IgnoresProgress dexOp := ⟨fun _ _ _ => rfl, fun _ => rfl⟩
theorem deyOp_ignoresProgress : IgnoresProgress deyOp := ⟨fun _ _ _ => rfl, fun _ => rfl⟩

theorem inxOp_eq_ldxOp (s : State) : inxOp s = ldxOp (s.x + 1) s := rfl
theorem inyOp_eq_ldyOp (s : State) : inyOp s = ldyOp (s.y + 1) s := rfl
theorem dexOp_eq_ldxOp (s : State) : dexOp s = ldxOp (s.x - 1) s := rfl
theorem deyOp_eq_ldyOp (s : State) : deyOp s = ldyOp (s.y - 1) s := rfl

end Sys2Proof.Claims

namespace Sys2Proof

open Machine Claims

/-- Settles O37: each of the four handlers is `shiftOperand` of its bit and its result, which `Laws/Flags.lean` gives
as numbers, and all five forms of an instruction run its handler. -/
theorem shiftsMoveOneBitThroughCarry : Obligations.ShiftsMoveOneBitThroughCarry := by
  intro s b w hwf asl lsr rol ror left right
  have hasl : ModifiesOperand aslOp s asl (left asl) := by
    rw [aslOp_eq_shiftOperand]
    exact modifiesOperand_of_shiftOperand s aslResult_eq bit7_eq
  have hlsr : ModifiesOperand lsrOp s lsr (right lsr) := by
    rw [lsrOp_eq_shiftOperand]
    exact modifiesOperand_of_shiftOperand s lsrResult_eq bit0_eq
  have hrol : ModifiesOperand rolOp s rol (left rol) := by
    rw [rolOp_eq_shiftOperand]
    exact modifiesOperand_of_shiftOperand s (rolResult_eq s.flags.c) bit7_eq
  have hror : ModifiesOperand rorOp s ror (right ror) := by
    rw [rorOp_eq_shiftOperand]
    exact modifiesOperand_of_shiftOperand s (rorResult_eq s.flags.c) bit0_eq
  refine ⟨?aslA, ?lsrA, ?rolA, ?rorA, ?asl, ?lsr, ?rol, ?ror⟩
  case aslA => exact completes_of_runAcc hasl ⟨rfl, rfl⟩ (exec_aslA s)
  case lsrA => exact completes_of_runAcc hlsr ⟨rfl, rfl⟩ (exec_lsrA s)
  case rolA => exact completes_of_runAcc hrol ⟨rfl, rfl⟩ (exec_rolA s)
  case rorA => exact completes_of_runAcc hror ⟨rfl, rfl⟩ (exec_rorA s)
  case asl =>
    exact modifiesMemory_of_runModify hwf hasl
      ⟨⟨rfl, exec_aslZp b s⟩, ⟨rfl, exec_aslZpX b s⟩,
        ⟨rfl, exec_aslAbs w s⟩, ⟨rfl, exec_aslAbsX w s⟩⟩
  case lsr =>
    exact modifiesMemory_of_runModify hwf hlsr
      ⟨⟨rfl, exec_lsrZp b s⟩, ⟨rfl, exec_lsrZpX b s⟩,
        ⟨rfl, exec_lsrAbs w s⟩, ⟨rfl, exec_lsrAbsX w s⟩⟩
  case rol =>
    exact modifiesMemory_of_runModify hwf hrol
      ⟨⟨rfl, exec_rolZp b s⟩, ⟨rfl, exec_rolZpX b s⟩,
        ⟨rfl, exec_rolAbs w s⟩, ⟨rfl, exec_rolAbsX w s⟩⟩
  case ror =>
    exact modifiesMemory_of_runModify hwf hror
      ⟨⟨rfl, exec_rorZp b s⟩, ⟨rfl, exec_rorZpX b s⟩,
        ⟨rfl, exec_rorAbs w s⟩, ⟨rfl, exec_rorAbsX w s⟩⟩

/-- Settles O38: both handlers are `modifyOperand` of the byte's successor or predecessor, the accumulator forms of the
optional group included. -/
theorem incDecModifyAndSetZN : Obligations.IncDecModifyAndSetZN := by
  intro s b w hwf inc dec
  have hinc : ModifiesOperand incOp s inc (fun m => withZN s.flags (inc m)) := by
    rw [incOp_eq_modifyOperand]
    exact modifiesOperand_of_modifyOperand s byte_inc_eq
  have hdec : ModifiesOperand decOp s dec (fun m => withZN s.flags (dec m)) := by
    rw [decOp_eq_modifyOperand]
    exact modifiesOperand_of_modifyOperand s byte_dec_eq
  refine ⟨?incA, ?decA, ?inc, ?dec⟩
  case incA => exact completes_of_runAcc hinc ⟨rfl, rfl⟩ (exec_incA s)
  case decA => exact completes_of_runAcc hdec ⟨rfl, rfl⟩ (exec_decA s)
  case inc =>
    exact modifiesMemory_of_runModify hwf hinc
      ⟨⟨rfl, exec_incZp b s⟩, ⟨rfl, exec_incZpX b s⟩,
        ⟨rfl, exec_incAbs w s⟩, ⟨rfl, exec_incAbsX w s⟩⟩
  case dec =>
    exact modifiesMemory_of_runModify hwf hdec
      ⟨⟨rfl, exec_decZp b s⟩, ⟨rfl, exec_decZpX b s⟩,
        ⟨rfl, exec_decAbs w s⟩, ⟨rfl, exec_decAbsX w s⟩⟩

/-- Settles O39: each runs a load handler on the wrapped neighbour of its register. -/
theorem indexIncDecSetZN : Obligations.IndexIncDecSetZN := by
  intro s inc dec
  have hinc (m : Byte) : m + 1 = inc m := byte_inc_eq m
  have hdec (m : Byte) : m - 1 = dec m := byte_dec_eq m
  refine ⟨?inx, ?iny, ?dex, ?dey⟩
  case inx =>
    exact completes_of_runImplied inxOp_ignoresProgress ⟨rfl, rfl⟩ (exec_inx s)
      (by rw [inxOp_eq_ldxOp, ldxOp_eq, hinc])
  case iny =>
    exact completes_of_runImplied inyOp_ignoresProgress ⟨rfl, rfl⟩ (exec_iny s)
      (by rw [inyOp_eq_ldyOp, ldyOp_eq, hinc])
  case dex =>
    exact completes_of_runImplied dexOp_ignoresProgress ⟨rfl, rfl⟩ (exec_dex s)
      (by rw [dexOp_eq_ldxOp, ldxOp_eq, hdec])
  case dey =>
    exact completes_of_runImplied deyOp_ignoresProgress ⟨rfl, rfl⟩ (exec_dey s)
      (by rw [deyOp_eq_ldyOp, ldyOp_eq, hdec])

end Sys2Proof
end

section
/-! SUPPORT. Branches, jumps, calls and returns (R210 to R225 of `45_branch_jump.md`, R271 of `47_c02_optional.md`): O41,
O42, O43, O44 and O45. Their handlers end by writing `pc`. What such a handler does besides that ignores what lines 7
and 8 of R123 did, so a completed jump is described by `finished` with the target in place of the advanced `pc`. -/

namespace Sys2Proof.Claims

open Machine

/-! ## Handlers that end by writing `pc` -/

/-- A written target replaces whatever `pc` the handler ran with. -/
theorem rearm_setPc_eq_finished {h : State → State} (hh : IgnoresProgress h) (op : Byte) (target pc : Word)
    (extra : Nat) (s : State) :
    rearm op (setPc target (h { s with pc := pc, bonus := s.bonus + extra })) = finished op target extra s (h s) := by
  have hpc : setPc target (h { s with pc := pc, bonus := s.bonus + extra }) =
      h { s with pc := target, bonus := s.bonus + extra } := by
    rw [hh.commutes s pc, hh.commutes s target]
    rfl
  rw [hpc, rearm_eq_finished hh]

/-- Lines 7 and 8 of R123 for a mode that crosses no page; the bonus is spelled as `finished` spells it. -/
theorem enter_of_not_crossed {m : AddrMode} {s : State} (hm : crossed m s = false) (op : Byte) :
    enter op m s = { s with pc := s.pc + BitVec.ofNat 16 m.length, bonus := s.bonus + 0 } := by
  rw [enter_eq, hm]
  rfl

section
variable {i : Instr} {op : Byte} {base : Nat} {h : State → State} {target : Word} {s after : State}

/-- `hg` splits the handler into its target and the rest of its work `h`, in the one state it runs in. -/
theorem jumps_of_runAddr {m : AddrMode} {g : Word → State → State} (hh : IgnoresProgress h)
    (hrow : Encoded i op base) (hexec : exec i s = .next (runAddr op m g s)) (hm : crossed m s = false)
    (hg : g (effAddr m s) (enter op m s) = setPc target (h (enter op m s))) (hafter : h s = after) :
    Jumps i op base target s after :=
  ⟨hrow, by rw [hexec, runAddr, hg, enter_of_not_crossed hm, rearm_setPc_eq_finished hh, hafter]⟩

theorem jumps_of_runImplied {g : State → State} (hh : IgnoresProgress h) (hrow : Encoded i op base)
    (hexec : exec i s = .next (runImplied op g s)) (hg : g (advance 1 s) = setPc target (h (advance 1 s)))
    (hafter : h s = after) : Jumps i op base target s after := by
  have hfinished : runImplied op g s = finished op target 0 s (h s) := by
    rw [runImplied, hg]
    exact rearm_setPc_eq_finished hh op target _ 0 s
  exact ⟨hrow, by rw [hexec, hfinished, hafter]⟩

end

/-! ## The branches of R210 to R218 and R271 -/

/-- The pseudocode that the nine branches share: a branch whose condition is a function of the flags. -/
def branchOn (cond : Flags → Bool) (target : Word) (s : State) : State := branch (cond s.flags) target s

theorem runAddr_branchOn_eq_finished (op b : Byte) (cond : Flags → Bool) (s : State) :
    runAddr op (.rel b) (branchOn cond) s =
      finished op (if cond s.flags then effAddr (.rel b) s else s.pc + 2)
        (if cond s.flags then takenBonus (s.pc + 2) (effAddr (.rel b) s) else 0) s s := by
  rw [runAddr, branchOn, enter_flags, enter_of_not_crossed rfl]
  cases cond s.flags with
  | false => rfl
  | true => rfl

/-- A row of O41, an instruction, its opcode and whether it is taken in `s`: the instruction runs `branchOn` a condition
with that value in `s`. -/
def RunsBranch (b : Byte) (s : State) : Instr × Byte × Bool → Prop
  | (i, op, taken) => ∃ cond : Flags → Bool, cond s.flags = taken ∧ Encoded i op 2 ∧
      exec i s = .next (runAddr op (.rel b) (branchOn cond) s)

theorem takenBonus_eq (pc target : Word) :
    takenBonus pc target = if pc.toNat / 256 = target.toNat / 256 then 1 else 2 := by
  simp only [takenBonus, bne_iff_ne, ne_eq, ite_not, hi_eq_iff]

/-! ## The stack cells as numbers (R24, R240, R241) -/

theorem stackAddr_eq_stackCell (sp : Byte) : stackAddr sp = stackCell sp.toNat := by
  have := sp.isLt
  apply BitVec.eq_of_toNat_eq
  rw [toNat_stackAddr, stackCell, BitVec.toNat_ofNat]
  omega

theorem stackAddr_ofNat (n : Nat) : stackAddr (BitVec.ofNat 8 n) = stackCell n := by
  rw [stackAddr_eq_stackCell, BitVec.toNat_ofNat, stackCell, Nat.mod_mod]
  rfl

theorem stackCell_eq_iff (m n : Nat) : stackCell m = stackCell n ↔ m % 256 = n % 256 := by
  rw [stackCell, stackCell, ← BitVec.toNat_inj, BitVec.toNat_ofNat, BitVec.toNat_ofNat]
  omega

/-- The cell below a cell, wrapped in the stack page, is another one. -/
theorem stackCell_pred_ne (n : Nat) : stackCell (n + 255) ≠ stackCell n := by
  rw [ne_eq, stackCell_eq_iff]
  omega

/-! ## JSR: a word on the stack (R222, R56) -/

/-- The two pushes of JSR: high byte first, so the low byte lies below it. -/
def pushWord (r : Word) (s : State) : State := push (lo r) (push (hi r) s)

theorem jsrOp_eq (target : Word) (s : State) : jsrOp target s = setPc target (pushWord (s.pc - 1) s) := rfl

theorem pushWord_ignoresProgress (r : Word) : IgnoresProgress (pushWord r) := ⟨fun _ _ _ => rfl, fun _ => rfl⟩

theorem pushWord_eq (r : Word) (s : State) :
    pushWord r s = { s with sp := BitVec.ofNat 8 (s.sp.toNat + 254), mem := (pushWord r s).mem } := by
  have hsp : s.sp - 1 - 1 = BitVec.ofNat 8 (s.sp.toNat + 254) := by
    apply BitVec.eq_of_toNat_eq
    rw [byte_dec_eq, byte_dec_eq, BitVec.toNat_ofNat, BitVec.toNat_ofNat, BitVec.toNat_ofNat]
    omega
  rw [← hsp]
  rfl

/-- The two cells are distinct, so the second push leaves the first byte in place. -/
theorem memRead_pushWord (r : Word) (s : State) (k : Word) (hwf : Memory.wf s.mem = true) :
    memRead (pushWord r s) k =
      if k = stackCell s.sp.toNat then hi r
      else if k = stackCell (s.sp.toNat + 255) then lo r
      else memRead s k := by
  have hlow : stackAddr (push (hi r) s).sp = stackCell (s.sp.toNat + 255) := by
    rw [push_sp, byte_dec_eq, stackAddr_ofNat, stackCell_eq_iff, Nat.mod_mod]
  rw [pushWord, memRead_push _ _ _ (push_wf _ hwf), memRead_push _ _ _ hwf, hlow, stackAddr_eq_stackCell]
  by_cases hk : k = stackCell s.sp.toNat
  · rw [if_neg (hk ▸ (stackCell_pred_ne _).symm), if_pos hk, if_pos hk]
  · rw [if_neg hk, if_neg hk]

/-- The operand is three bytes long, so `pc − 1` in the handler is `pc0 + 2`. -/
theorem jsr_jumps (s : State) (w : Word) : Jumps (.jsr w) 0x20 6 w s (pushWord (s.pc + 2) s) := by
  have hreturn : s.pc + 3 - 1 = s.pc + 2 := add_sub_assoc s.pc 3 1
  refine jumps_of_runAddr (pushWord_ignoresProgress (s.pc + 2)) ⟨rfl, rfl⟩ (exec_jsr w s) rfl ?_ rfl
  rw [jsrOp_eq, enter_pc, ← hreturn]
  rfl

/-! ## RTS and RTI: bytes off the stack (R223, R224) -/

theorem popped_iterate (s : State) (k : Nat) : popped^[k] s = setSp (BitVec.ofNat 8 (s.sp.toNat + k)) s := by
  induction k with
  | zero => rw [Nat.add_zero, BitVec.ofNat_toNat, BitVec.setWidth_eq]; rfl
  | succ k ih =>
    rw [Function.iterate_succ_apply', ih, ← Nat.add_assoc, BitVec.ofNat_add _ 1]
    rfl

/-- The byte that a further `Pop()` returns after `k` of them. -/
theorem popByte_popped_iterate (s : State) (k : Nat) :
    popByte (popped^[k] s) = memRead s (stackCell (s.sp.toNat + (k + 1))) := by
  rw [← stackAddr_ofNat, ← Nat.add_assoc, BitVec.ofNat_add _ 1, popped_iterate]
  rfl

theorem cat_eq_ofNat (h l : Byte) : cat h l = BitVec.ofNat 16 (256 * h.toNat + l.toNat) := by
  rw [cat, Nat.mul_comm]

theorem rtsOp_eq (s : State) :
    rtsOp s = setPc (BitVec.ofNat 16 (256 * (memRead s (stackCell (s.sp.toNat + 2))).toNat +
        (memRead s (stackCell (s.sp.toNat + 1))).toNat + 1)) (setSp (BitVec.ofNat 8 (s.sp.toNat + 2)) s) := by
  rw [BitVec.ofNat_add _ 1, ← cat_eq_ofNat, ← popped_iterate s 2, ← popByte_popped_iterate s 1,
    ← popByte_popped_iterate s 0]
  rfl

theorem rtiOp_eq (s : State) :
    rtiOp s = setPc (BitVec.ofNat 16 (256 * (memRead s (stackCell (s.sp.toNat + 3))).toNat +
        (memRead s (stackCell (s.sp.toNat + 2))).toNat))
      (setFlags (unpack (memRead s (stackCell (s.sp.toNat + 1)))) (setSp (BitVec.ofNat 8 (s.sp.toNat + 3)) s)) := by
  rw [← cat_eq_ofNat, ← popped_iterate s 3, ← popByte_popped_iterate s 2, ← popByte_popped_iterate s 1,
    ← popByte_popped_iterate s 0]
  rfl

end Sys2Proof.Claims

namespace Sys2Proof

open Machine Claims

/-- Settles O41: every branch is `branchOn` its flag; its target is the number O26 gives, and its bonus compares the
pages of that target and of `pc0 + 2`. -/
theorem branchesTestTheirFlag : Obligations.BranchesTestTheirFlag := by
  intro s b f hmem next target extra
  have hrun : RunsBranch b s f := by
    refine (List.forall_iff_forall_mem (p := RunsBranch b s)).mp ?rows f hmem
    exact ⟨⟨(!·.n), rfl, ⟨rfl, rfl⟩, exec_bpl b s⟩, ⟨(·.n), rfl, ⟨rfl, rfl⟩, exec_bmi b s⟩,
      ⟨(!·.v), rfl, ⟨rfl, rfl⟩, exec_bvc b s⟩, ⟨(·.v), rfl, ⟨rfl, rfl⟩, exec_bvs b s⟩,
      ⟨(!·.c), rfl, ⟨rfl, rfl⟩, exec_bcc b s⟩, ⟨(·.c), rfl, ⟨rfl, rfl⟩, exec_bcs b s⟩,
      ⟨(!·.z), rfl, ⟨rfl, rfl⟩, exec_bne b s⟩, ⟨(·.z), rfl, ⟨rfl, rfl⟩, exec_beq b s⟩,
      ⟨fun _ => true, rfl, ⟨rfl, rfl⟩, exec_bra b s⟩⟩
  obtain ⟨cond, htaken, hrow, hexec⟩ := hrun
  have hnext : (s.pc + 2).toNat = next := BitVec.toNat_add s.pc 2
  have htarget : (effAddr (.rel b) s).toNat = target := by
    rw [← Int.toNat_natCast (effAddr (.rel b) s).toNat, (relativeTargetIsSigned s b).1]
  have hpc : (if f.2.2 then effAddr (.rel b) s else s.pc + 2) = BitVec.ofNat 16 (if f.2.2 then target else next) := by
    rw [← hnext, ← htarget, apply_ite (BitVec.ofNat 16), BitVec.ofNat_toNat, BitVec.ofNat_toNat, BitVec.setWidth_eq,
      BitVec.setWidth_eq]
  refine ⟨hrow, ?_⟩
  rw [hexec, runAddr_branchOn_eq_finished, htaken, hpc, takenBonus_eq, hnext, htarget]

/-- Settles O43: JSR puts its return address on the stack as one word and jumps. -/
theorem jsrPushesReturnAddress : Obligations.JsrPushesReturnAddress := by
  intro s w hwf r
  obtain ⟨hrow, hexec⟩ := jsr_jumps s w
  have hr : (s.pc + 2).toNat = r := BitVec.toNat_add s.pc 2
  refine ⟨hrow, _, hexec, ?frame, fun k => ?memory⟩
  case frame => rw [pushWord_eq]; rfl
  case memory =>
    rw [← hr]
    exact memRead_pushWord (s.pc + 2) s k hwf

/-- Settles O44: `rtsOp_eq` and `rtiOp_eq`, read in the state whose `pc` is already past the opcode, give the targets
and the new `sp` as numbers. -/
theorem returnsPopPc : Obligations.ReturnsPopPc := by
  intro s pop
  refine ⟨?rts, ?rti⟩
  case rts =>
    exact jumps_of_runImplied (h := setSp (BitVec.ofNat 8 (s.sp.toNat + 2)))
      ⟨fun _ _ _ => rfl, fun _ => rfl⟩ ⟨rfl, rfl⟩ (exec_rts s) (rtsOp_eq (advance 1 s)) rfl
  case rti =>
    exact jumps_of_runImplied (h := setFlags (unpack (pop 1)) ∘ setSp (BitVec.ofNat 8 (s.sp.toNat + 3)))
      ⟨fun _ _ _ => rfl, fun _ => rfl⟩ ⟨rfl, rfl⟩ (exec_rti s) (rtiOp_eq (advance 1 s)) rfl

/-- Settles O45: O43 says which two bytes JSR leaves, and O44 at the target reads the same two cells, because `sp` is
lower by 2. -/
theorem jsrThenRtsReturnsBehindTheCall : Obligations.JsrThenRtsReturnsBehindTheCall := by
  intro s w hwf
  let r := (s.pc.toNat + 2) % 65536
  obtain ⟨-, t, hjsr, ht, hmem⟩ := jsrPushesReturnAddress s w hwf
  obtain ⟨⟨-, hrts⟩, -⟩ := returnsPopPc t
  have htsp : t.sp = BitVec.ofNat 8 (s.sp.toNat + 254) := by rw [ht]; rfl
  have hlow : memRead t (stackCell (t.sp.toNat + 1)) = BitVec.ofNat 8 r := by
    have hcell : stackCell (t.sp.toNat + 1) = stackCell (s.sp.toNat + 255) := by
      rw [htsp, BitVec.toNat_ofNat, stackCell_eq_iff]
      omega
    rw [hcell, hmem, if_neg (stackCell_pred_ne s.sp.toNat), if_pos rfl]
  have hhigh : memRead t (stackCell (t.sp.toNat + 2)) = BitVec.ofNat 8 (r / 256) := by
    have hcell : stackCell (t.sp.toNat + 2) = stackCell s.sp.toNat := by
      rw [htsp, BitVec.toNat_ofNat, stackCell_eq_iff]
      omega
    rw [hcell, hmem, if_pos rfl]
  have husp : BitVec.ofNat 8 (t.sp.toNat + 2) = s.sp := by
    apply BitVec.eq_of_toNat_eq
    have hsp := s.sp.isLt
    rw [htsp, BitVec.toNat_ofNat, BitVec.toNat_ofNat]
    omega
  refine ⟨t, _, hjsr, hrts, ?pc, husp, ?frame⟩
  case pc =>
    show (BitVec.ofNat 16 (256 * (memRead t (stackCell (t.sp.toNat + 2))).toNat +
      (memRead t (stackCell (t.sp.toNat + 1))).toNat + 1)).toNat = _
    rw [hlow, hhigh]
    simp only [BitVec.toNat_ofNat, r]
    omega
  case frame =>
    simp only [finished, husp]
    rw [ht]
    rfl

/-- Settles O42: none of the three modes crosses a page, and `jmpOp` writes `pc` alone. -/
theorem jumpsWritePcOnly : Obligations.JumpsWritePcOnly := fun s w =>
  have hid : IgnoresProgress id := ⟨fun _ _ _ => rfl, fun _ => rfl⟩
  ⟨jumps_of_runAddr hid ⟨rfl, rfl⟩ (exec_jmpAbs w s) rfl rfl rfl,
    jumps_of_runAddr hid ⟨rfl, rfl⟩ (exec_jmpInd w s) rfl rfl rfl,
    jumps_of_runAddr hid ⟨rfl, rfl⟩ (exec_jmpIndAbsX w s) rfl rfl rfl⟩

end Sys2Proof
end

section
/-! SUPPORT. Stack, flag and system instructions (R240 to R259 of `46_stack_flags_system.md`, R303 of
`60_exceptions.md`): O46, O47, O48, O49 and O50. All are implied, and their handlers ignore `pc` and `bonus`. A push is
described once for the byte it stores, and what a pull finds after it is derived from that description, so the wrap of
`sp` is argued in one place. -/

namespace Sys2Proof.Claims

open Machine

/-! ## Pushes (R240, R242, R244, R246, R248) -/

theorem push_eq_frame (v : Byte) (s : State) :
    push v s = { s with sp := BitVec.ofNat 8 (s.sp.toNat + 255), mem := (push v s).mem } := by
  have hsp : s.sp - 1 = BitVec.ofNat 8 (s.sp.toNat + 255) := by
    rw [byte_dec_eq]
    exact BitVec.eq_of_toNat_eq (by simp only [BitVec.toNat_ofNat, Nat.mod_mod])
  rw [← hsp]
  rfl

theorem memRead_push_stackCell (v : Byte) (s : State) (k : Word) (hwf : Memory.wf s.mem = true) :
    memRead (push v s) k = if k = stackCell s.sp.toNat then v else memRead s k := by
  rw [memRead_push v s k hwf, stackAddr_eq_stackCell]

theorem phaOp_ignoresProgress : IgnoresProgress phaOp := ⟨fun _ _ _ => rfl, fun _ => rfl⟩
theorem phxOp_ignoresProgress : IgnoresProgress phxOp := ⟨fun _ _ _ => rfl, fun _ => rfl⟩
theorem phyOp_ignoresProgress : IgnoresProgress phyOp := ⟨fun _ _ _ => rfl, fun _ => rfl⟩
theorem phpOp_ignoresProgress : IgnoresProgress phpOp := ⟨fun _ _ _ => rfl, fun _ => rfl⟩

/-- Bit 4 of the packed status is the flag `b` (R28). -/
theorem pack_or_bit4 (f : Flags) : pack f ||| 0x10 = pack { f with b := true } := by
  apply BitVec.eq_of_getLsbD_eq
  intro k hk
  rw [BitVec.getLsbD_or, pack_getLsbD, pack_getLsbD, statusBits, statusBits]
  interval_cases k <;> simp

theorem pushedStatus_eq (s : State) :
    pushedStatus s = if s.cfg.phpForcesB then pack { s.flags with b := true } else pack s.flags := by
  rw [pushedStatus, pack_or_bit4]

/-- `i`, of opcode `op`, completes as a push of `v`. -/
def PushesByte (i : Instr) (op v : Byte) (s : State) : Prop :=
  CompletesStoring i op 1 3 0 (stackCell s.sp.toNat) v s { s with sp := BitVec.ofNat 8 (s.sp.toNat + 255) }

section
variable {i : Instr} {op v : Byte} {s : State}

theorem pushesByte_of_runImplied {h : State → State} (hwf : Memory.wf s.mem = true) (hh : IgnoresProgress h)
    (hrow : Encoded i op 3) (hexec : exec i s = .next (runImplied op h s)) (hpush : h s = push v s) :
    PushesByte i op v s := by
  rw [runImplied_eq_finished hh, hpush] at hexec
  refine ⟨hrow, _, hexec, ?frame, fun k => memRead_push_stackCell v s k hwf⟩
  case frame => rw [push_eq_frame]; rfl

/-- After a push, the cell a pull reads holds the pushed byte, and the `sp` a pull leaves is the one before the push
(R259). -/
theorem PushesByte.exists_pullable (hpush : PushesByte i op v s) :
    ∃ t, exec i s = .next t ∧ memRead t (stackCell (t.sp.toNat + 1)) = v ∧ BitVec.ofNat 8 (t.sp.toNat + 1) = s.sp := by
  obtain ⟨-, t, hexec, hframe, hmem⟩ := hpush
  have hsp : t.sp = BitVec.ofNat 8 (s.sp.toNat + 255) := by rw [hframe]; rfl
  have hback : BitVec.ofNat 8 (t.sp.toNat + 1) = s.sp := by
    apply BitVec.eq_of_toNat_eq
    have hlt := s.sp.isLt
    rw [hsp, BitVec.toNat_ofNat, BitVec.toNat_ofNat]
    omega
  refine ⟨t, hexec, ?_, hback⟩
  rw [← stackAddr_ofNat, hback, hmem, stackAddr_eq_stackCell, if_pos rfl]

end

theorem pha_pushesByte {s : State} (hwf : Memory.wf s.mem = true) : PushesByte .pha 0x48 s.a s :=
  pushesByte_of_runImplied hwf phaOp_ignoresProgress ⟨rfl, rfl⟩ (exec_pha s) rfl

theorem phx_pushesByte {s : State} (hwf : Memory.wf s.mem = true) : PushesByte .phx 0xDA s.x s :=
  pushesByte_of_runImplied hwf phxOp_ignoresProgress ⟨rfl, rfl⟩ (exec_phx s) rfl

theorem phy_pushesByte {s : State} (hwf : Memory.wf s.mem = true) : PushesByte .phy 0x5A s.y s :=
  pushesByte_of_runImplied hwf phyOp_ignoresProgress ⟨rfl, rfl⟩ (exec_phy s) rfl

theorem php_pushesByte {s : State} (hwf : Memory.wf s.mem = true) : PushesByte .php 0x08 (pushedStatus s) s :=
  pushesByte_of_runImplied hwf phpOp_ignoresProgress ⟨rfl, rfl⟩ (exec_php s) rfl

/-! ## Pulls (R241, R243, R245, R247, R249) -/

theorem popByte_eq (s : State) : popByte s = memRead s (stackCell (s.sp.toNat + 1)) := popByte_popped_iterate s 0

theorem popped_eq (s : State) : popped s = { s with sp := BitVec.ofNat 8 (s.sp.toNat + 1) } := popped_iterate s 1

theorem plaOp_ignoresProgress : IgnoresProgress plaOp := ⟨fun _ _ _ => rfl, fun _ => rfl⟩
theorem plxOp_ignoresProgress : IgnoresProgress plxOp := ⟨fun _ _ _ => rfl, fun _ => rfl⟩
theorem plyOp_ignoresProgress : IgnoresProgress plyOp := ⟨fun _ _ _ => rfl, fun _ => rfl⟩
theorem plpOp_ignoresProgress : IgnoresProgress plpOp := ⟨fun _ _ _ => rfl, fun _ => rfl⟩

theorem plaOp_eq_ldaOp (s : State) : plaOp s = ldaOp (popByte s) (popped s) := rfl
theorem plxOp_eq_ldxOp (s : State) : plxOp s = ldxOp (popByte s) (popped s) := rfl
theorem plyOp_eq_ldyOp (s : State) : plyOp s = ldyOp (popByte s) (popped s) := rfl
theorem plpOp_eq_setFlags (s : State) : plpOp s = setFlags (unpack (popByte s)) (popped s) := rfl

/-! ## Flags, NOP and BRK (R250 to R258, R303) -/

theorem setC_ignoresProgress (v : Bool) : IgnoresProgress (setC v) := ⟨fun _ _ _ => rfl, fun _ => rfl⟩
theorem setI_ignoresProgress (v : Bool) : IgnoresProgress (setI v) := ⟨fun _ _ _ => rfl, fun _ => rfl⟩
theorem setD_ignoresProgress (v : Bool) : IgnoresProgress (setD v) := ⟨fun _ _ _ => rfl, fun _ => rfl⟩
theorem setV_ignoresProgress (v : Bool) : IgnoresProgress (setV v) := ⟨fun _ _ _ => rfl, fun _ => rfl⟩
theorem nopOp_ignoresProgress : IgnoresProgress nopOp := ⟨fun _ _ _ => rfl, fun _ => rfl⟩
theorem brkOp_ignoresProgress : IgnoresProgress brkOp := ⟨fun _ _ _ => rfl, fun _ => rfl⟩

end Sys2Proof.Claims

namespace Sys2Proof

open Machine Claims

/-- Settles O46: each of the four is a push of its byte; for PHP that byte is `pushedStatus`. -/
theorem pushesStoreOnTheStack : Obligations.PushesStoreOnTheStack := by
  intro s hwf
  rw [← pushedStatus_eq]
  exact List.forall_iff_forall_mem.mp
    ⟨pha_pushesByte hwf, phx_pushesByte hwf, phy_pushesByte hwf, php_pushesByte hwf⟩

/-- Settles O47: a pull into a register is a load of the popped byte in the state with `sp` raised; PLP unpacks that
byte. -/
theorem pullsReadTheStack : Obligations.PullsReadTheStack := by
  intro s v up
  refine ⟨?pla, ?plx, ?ply, ?plp⟩
  case pla =>
    exact completes_of_runImplied plaOp_ignoresProgress ⟨rfl, rfl⟩ (exec_pla s)
      (by rw [plaOp_eq_ldaOp, ldaOp_eq, popByte_eq, popped_eq])
  case plx =>
    exact completes_of_runImplied plxOp_ignoresProgress ⟨rfl, rfl⟩ (exec_plx s)
      (by rw [plxOp_eq_ldxOp, ldxOp_eq, popByte_eq, popped_eq])
  case ply =>
    exact completes_of_runImplied plyOp_ignoresProgress ⟨rfl, rfl⟩ (exec_ply s)
      (by rw [plyOp_eq_ldyOp, ldyOp_eq, popByte_eq, popped_eq])
  case plp =>
    exact completes_of_runImplied plpOp_ignoresProgress ⟨rfl, rfl⟩ (exec_plp s)
      (by rw [plpOp_eq_setFlags, popByte_eq, popped_eq]; rfl)

/-- Settles O48: `PushesByte.exists_pullable` says what the pull finds, and O47 says where the pull puts it. -/
theorem pullTakesWhatPushLeft : Obligations.PullTakesWhatPushLeft := by
  intro s hwf
  refine ⟨?pha, ?phx, fun hforces => ?php⟩
  case pha =>
    obtain ⟨t, hpha, hread, hsp⟩ := (pha_pushesByte hwf).exists_pullable
    obtain ⟨⟨-, hpla⟩, -⟩ := pullsReadTheStack t
    exact ⟨t, _, hpha, hpla, hread, hsp⟩
  case phx =>
    obtain ⟨t, hphx, hread, hsp⟩ := (phx_pushesByte hwf).exists_pullable
    obtain ⟨-, -, ⟨-, hply⟩, -⟩ := pullsReadTheStack t
    exact ⟨t, _, hphx, hply, hread, hsp⟩
  case php =>
    obtain ⟨t, hphp, hread, hsp⟩ := (php_pushesByte hwf).exists_pullable
    obtain ⟨-, -, -, -, hplp⟩ := pullsReadTheStack t
    have hflags : unpack (memRead t (stackCell (t.sp.toNat + 1))) = s.flags := by
      rw [hread, pushedStatus_eq, hforces]
      exact unpack_pack s.flags
    exact ⟨t, _, hphp, hplp, hflags, hsp⟩

/-- Settles O49: each handler is one of the updates of a single flag. -/
theorem flagInstructionsWriteOneFlag : Obligations.FlagInstructionsWriteOneFlag := fun s =>
  ⟨completes_of_runImplied (setC_ignoresProgress false) ⟨rfl, rfl⟩ (exec_clc s) rfl,
    completes_of_runImplied (setC_ignoresProgress true) ⟨rfl, rfl⟩ (exec_sec s) rfl,
    completes_of_runImplied (setI_ignoresProgress false) ⟨rfl, rfl⟩ (exec_cli s) rfl,
    completes_of_runImplied (setI_ignoresProgress true) ⟨rfl, rfl⟩ (exec_sei s) rfl,
    completes_of_runImplied (setD_ignoresProgress false) ⟨rfl, rfl⟩ (exec_cld s) rfl,
    completes_of_runImplied (setD_ignoresProgress true) ⟨rfl, rfl⟩ (exec_sed s) rfl,
    completes_of_runImplied (setV_ignoresProgress false) ⟨rfl, rfl⟩ (exec_clv s) rfl⟩

/-- Settles O50: NOP's handler is the identity and BRK's sets one latch. -/
theorem nopAndBrk : Obligations.NopAndBrk := fun s =>
  ⟨completes_of_runImplied nopOp_ignoresProgress ⟨rfl, rfl⟩ (exec_nop s) rfl,
    completes_of_runImplied brkOp_ignoresProgress ⟨rfl, rfl⟩ (exec_brk s) rfl⟩

end Sys2Proof
end

section
/-! SUPPORT. TSB and TRB (R277, R278 of `47_c02_optional.md`): O40. Their two handlers differ only in the byte they write:
Z is set first, from the byte that was read, and a write leaves the flags alone, so both modify their operand in the
sense of `ModifiesOperand` and the memory forms follow as for the shifts. -/

namespace Sys2Proof.Claims

open Machine

/-- The pseudocode that R277 and R278 share: Z of `a & m`, then the operand `m` is replaced by `f a m`. -/
def testAndModify (f : Byte → Byte → Byte) (ea : EA) (s : State) : State :=
  opWrite ea (f s.a (opRead ea s)) (testBits (opRead ea s) s)

theorem tsbOp_eq_testAndModify : tsbOp = testAndModify fun a m => m ||| a := rfl
theorem trbOp_eq_testAndModify : trbOp = testAndModify fun a m => m &&& (a ^^^ 0xFF) := rfl

theorem testAndModify_ignoresProgress (f : Byte → Byte → Byte) : ∀ ea, IgnoresProgress (testAndModify f ea)
  | .acc => ⟨fun _ _ _ => rfl, fun _ => rfl⟩
  | .mem _ => ⟨fun _ _ _ => rfl, fun _ => rfl⟩

theorem opWrite_with_flags (v : Byte) (s : State) (flags : Flags) :
    ∀ ea, opWrite ea v { s with flags := flags } = { opWrite ea v s with flags := flags }
  | .acc => rfl
  | .mem _ => rfl

theorem modifiesOperand_of_testAndModify (f : Byte → Byte → Byte) (s : State) :
    ModifiesOperand (testAndModify f) s (f s.a) (fun m => { s.flags with z := decide (s.a &&& m = 0) }) where
  ignoresProgress := testAndModify_ignoresProgress f
  eq ea := by rw [testAndModify, testBits_eq, opWrite_with_flags]

end Sys2Proof.Claims

namespace Sys2Proof

open Machine Claims

/-- Settles O40: both handlers are `testAndModify`, and both forms of an instruction run its handler. -/
theorem testAndSetResetBits : Obligations.TestAndSetResetBits := by
  intro s b w hwf tested
  have htsb : ModifiesOperand tsbOp s (fun m => m ||| s.a) tested := by
    rw [tsbOp_eq_testAndModify]
    exact modifiesOperand_of_testAndModify (fun a m => m ||| a) s
  have htrb : ModifiesOperand trbOp s (fun m => m &&& (s.a ^^^ 0xFF)) tested := by
    rw [trbOp_eq_testAndModify]
    exact modifiesOperand_of_testAndModify (fun a m => m &&& (a ^^^ 0xFF)) s
  refine ⟨?tsb, ?trb⟩
  case tsb =>
    exact modifiesMemory_of_runModify hwf htsb
      ⟨⟨rfl, exec_tsbZp b s⟩, ⟨rfl, exec_tsbAbs w s⟩⟩
  case trb =>
    exact modifiesMemory_of_runModify hwf htrb
      ⟨⟨rfl, exec_trbZp b s⟩, ⟨rfl, exec_trbAbs w s⟩⟩

end Sys2Proof
end

section
/-! SUPPORT. The page-crossing cycle (R127, R351 of `70_reset_and_hazards.md`): O57. The default table pays for exactly
the reads in an indexed mode. Besides a branch, only line 7 of R123 adds to `bonus`, and it does so only for an opcode
that pays. -/

namespace Sys2Proof.Claims

open Machine

/-- The members of the default `PAGE_CROSS_SET` (R351). -/
theorem paysCrossing_default (i : Instr) : paysCrossing {} (opcodeOf i) =
    decide (i.mode ∈ [.absx, .absy, .indy] ∧
      i.mnemonic ∈ [.ora, .and, .eor, .adc, .lda, .cmp, .sbc, .ldx, .ldy, .bit]) := by
  unfold opcodeOf
  cases i <;> dsimp only [encode, List.headD_cons] <;> rfl

theorem paysCrossing_of_pageCross_eq_nil {cfg : Config} (hset : cfg.pageCross = []) (op : Byte) :
    paysCrossing cfg op = paysCrossing {} op := by
  simp only [paysCrossing, hset]

/-! ## What each shape of an instruction leaves in `bonus`

Only a branch's handler adds to `bonus` (R128), so any other memory form leaves the bonus it was entered with. -/

/-- The bonus the handler starts from is a variable of its own: that makes the fact a computation for every handler. -/
def KeepsBonus (h : State → State) : Prop := ∀ (s : State) (n : Nat), (h { s with bonus := n }).bonus = n

theorem KeepsBonus.eq {h : State → State} (hh : KeepsBonus h) (s : State) : (h s).bonus = s.bonus := hh s s.bonus

section
variable (op : Byte) (m : AddrMode) (s : State)

theorem runImplied_bonus {h : State → State} (hh : KeepsBonus h) : (runImplied op h s).bonus = s.bonus :=
  hh.eq (advance 1 s)

theorem runImm_bonus {h : Byte → State → State} {b : Byte} (hh : KeepsBonus (h b)) :
    (runImm op b h s).bonus = s.bonus :=
  hh.eq (advance 2 s)

theorem runAcc_bonus {h : EA → State → State} (hh : KeepsBonus (h .acc)) : (runAcc op h s).bonus = s.bonus :=
  hh.eq (advance 1 s)

theorem runRead_bonus {h : Byte → State → State} (hh : ∀ v, KeepsBonus (h v)) :
    (runRead op m h s).bonus = (enter op m s).bonus :=
  (hh _).eq (enter op m s)

theorem runAddr_bonus {h : Word → State → State} (hh : ∀ addr, KeepsBonus (h addr)) :
    (runAddr op m h s).bonus = (enter op m s).bonus :=
  (hh _).eq (enter op m s)

theorem runModify_bonus {h : EA → State → State} (hh : ∀ addr, KeepsBonus (h (.mem addr))) :
    (runModify op m h s).bonus = (enter op m s).bonus :=
  (hh _).eq (enter op m s)

end

/-! ## Forms that pay, and instructions that do not -/

/-- A form of O57: in `s` it runs, on the byte its mode addresses, a handler that keeps the bonus, and its opcode is in
the default set. -/
def PayingRead (s : State) : Instr × AddrMode → Prop
  | (i, m) => ∃ (op : Byte) (h : Byte → State → State), exec i s = .next (runRead op m h s) ∧
      (∀ v, KeepsBonus (h v)) ∧ paysCrossing {} op = true

theorem PayingRead.exists_next_bonus {s : State} {f : Instr × AddrMode} (hf : PayingRead s f)
    (hset : s.cfg.pageCross = []) :
    ∃ t, exec f.1 s = .next t ∧ t.bonus = s.bonus + if crossed f.2 s then 1 else 0 := by
  obtain ⟨op, h, hexec, hh, hpays⟩ := hf
  refine ⟨_, hexec, ?_⟩
  rw [runRead_bonus op f.2 s hh, enter_bonus, paysCrossing_of_pageCross_eq_nil hset, hpays, Bool.and_true]

/-- The cases are grouped by the shape the instruction runs in; the last group holds the reads of a memory operand. -/
theorem bonus_eq_of_not_paysCrossing {i : Instr} {s t : State} (hexec : exec i s = .next t) (hmode : i.mode ≠ .rel)
    (hpays : paysCrossing s.cfg (opcodeOf i) = false) : t.bonus = s.bonus := by
  have hentry (m : AddrMode) : (enter (opcodeOf i) m s).bonus = s.bonus := by
    rw [enter_bonus, hpays, Bool.and_false]
    rfl
  cases i with
  | bpl | bmi | bvc | bvs | bra | bcc | bcs | bne | beq => exact absurd rfl hmode
  | staZp | staZpX | staAbs | staAbsX | staAbsY | staIndX | staIndY | stxZp | stxZpY | stxAbs | styZp | styZpX
  | styAbs | stzZp | stzZpX | stzAbs | stzAbsX | jmpAbs | jmpInd | jmpIndAbsX | jsr =>
    cases hexec
    exact (runAddr_bonus _ _ s fun _ _ _ => rfl).trans (hentry _)
  | aslZp | aslZpX | aslAbs | aslAbsX | lsrZp | lsrZpX | lsrAbs | lsrAbsX | rolZp | rolZpX | rolAbs | rolAbsX
  | rorZp | rorZpX | rorAbs | rorAbsX | incZp | incZpX | incAbs | incAbsX | decZp | decZpX | decAbs | decAbsX
  | tsbZp | tsbAbs | trbZp | trbAbs =>
    cases hexec
    exact (runModify_bonus _ _ s fun _ _ _ => rfl).trans (hentry _)
  | aslA | lsrA | rolA | rorA | incA | decA =>
    cases hexec
    exact runAcc_bonus _ s fun _ _ => rfl
  | ldaImm | ldxImm | ldyImm | adcImm | sbcImm | andImm | oraImm | eorImm | cmpImm | cpxImm | cpyImm | bitImm =>
    cases hexec
    exact runImm_bonus _ s fun _ _ => rfl
  | tax | tay | txa | tya | tsx | txs | inx | iny | dex | dey | pha | php | phx | phy | pla | plp | plx | ply | rts
  | rti | clc | sec | cli | sei | cld | sed | clv | nop | brk =>
    cases hexec
    exact runImplied_bonus _ s fun _ _ => rfl
  | _ =>
    cases hexec
    exact (runRead_bonus _ _ s fun _ _ _ => rfl).trans (hentry _)

end Sys2Proof.Claims

namespace Sys2Proof

open Machine Claims

/-- Settles O57: each form listed reads its operand and is in the default set; an instruction that changes the bonus is
a branch or pays for a crossing, and `paysCrossing_default` names the ones that pay. -/
theorem crossingPaysForListedForms : Obligations.CrossingPaysForListedForms := by
  intro s b w hset
  refine ⟨?listed, ?others⟩
  case listed =>
    intro f hf
    refine PayingRead.exists_next_bonus (List.forall_iff_forall_mem.mp ?_ f hf) hset
    exact ⟨⟨_, _, exec_oraAbsX w s, fun _ _ _ => rfl, rfl⟩,
      ⟨_, _, exec_oraAbsY w s, fun _ _ _ => rfl, rfl⟩,
      ⟨_, _, exec_oraIndY b s, fun _ _ _ => rfl, rfl⟩,
      ⟨_, _, exec_andAbsX w s, fun _ _ _ => rfl, rfl⟩,
      ⟨_, _, exec_andAbsY w s, fun _ _ _ => rfl, rfl⟩,
      ⟨_, _, exec_andIndY b s, fun _ _ _ => rfl, rfl⟩,
      ⟨_, _, exec_eorAbsX w s, fun _ _ _ => rfl, rfl⟩,
      ⟨_, _, exec_eorAbsY w s, fun _ _ _ => rfl, rfl⟩,
      ⟨_, _, exec_eorIndY b s, fun _ _ _ => rfl, rfl⟩,
      ⟨_, _, exec_adcAbsX w s, fun _ _ _ => rfl, rfl⟩,
      ⟨_, _, exec_adcAbsY w s, fun _ _ _ => rfl, rfl⟩,
      ⟨_, _, exec_adcIndY b s, fun _ _ _ => rfl, rfl⟩,
      ⟨_, _, exec_ldaAbsX w s, fun _ _ _ => rfl, rfl⟩,
      ⟨_, _, exec_ldaAbsY w s, fun _ _ _ => rfl, rfl⟩,
      ⟨_, _, exec_ldaIndY b s, fun _ _ _ => rfl, rfl⟩,
      ⟨_, _, exec_cmpAbsX w s, fun _ _ _ => rfl, rfl⟩,
      ⟨_, _, exec_cmpAbsY w s, fun _ _ _ => rfl, rfl⟩,
      ⟨_, _, exec_cmpIndY b s, fun _ _ _ => rfl, rfl⟩,
      ⟨_, _, exec_sbcAbsX w s, fun _ _ _ => rfl, rfl⟩,
      ⟨_, _, exec_sbcAbsY w s, fun _ _ _ => rfl, rfl⟩,
      ⟨_, _, exec_sbcIndY b s, fun _ _ _ => rfl, rfl⟩,
      ⟨_, _, exec_ldxAbsY w s, fun _ _ _ => rfl, rfl⟩,
      ⟨_, _, exec_ldyAbsX w s, fun _ _ _ => rfl, rfl⟩,
      ⟨_, _, exec_bitAbsX w s, fun _ _ _ => rfl, rfl⟩⟩
  case others =>
    intro i t hexec hbonus
    by_cases hmode : i.mode = .rel
    · exact .inl hmode
    · right
      have hpays : paysCrossing s.cfg (opcodeOf i) = true := by
        by_contra hnot
        exact hbonus (bonus_eq_of_not_paysCrossing hexec hmode (Bool.eq_false_of_not_eq_true hnot))
      rw [paysCrossing_of_pageCross_eq_nil hset, paysCrossing_default] at hpays
      exact of_decide_eq_true hpays

end Sys2Proof
end

section
/-! SUPPORT. The decode tables, the decoder and the encoder (R80 to R93 of `30_encoding.md`): O1, O2, O3, O4 and O5. The
family `OpcodeRow` leads from an instruction to its row. The way back, from a row to the instructions that its form
makes, is `opcodeRow_sound`. -/

namespace Sys2Proof

open Machine

/-- The family `OpcodeRow` for an instruction of any form. -/
theorem Laws.OpcodeRow.all : ∀ i, Laws.OpcodeRow.Statement i
  | .brk => brk | .oraIndX b => oraIndX b | .tsbZp b => tsbZp b | .oraZp b => oraZp b | .aslZp b => aslZp b
  | .php => php | .oraImm b => oraImm b | .aslA => aslA | .tsbAbs w => tsbAbs w | .oraAbs w => oraAbs w
  | .aslAbs w => aslAbs w | .bpl b => bpl b | .oraIndY b => oraIndY b | .trbZp b => trbZp b | .oraZpX b => oraZpX b
  | .aslZpX b => aslZpX b | .clc => clc | .oraAbsY w => oraAbsY w | .incA => incA | .trbAbs w => trbAbs w
  | .oraAbsX w => oraAbsX w | .aslAbsX w => aslAbsX w | .jsr w => jsr w | .andIndX b => andIndX b
  | .bitZp b => bitZp b | .andZp b => andZp b | .rolZp b => rolZp b | .plp => plp | .andImm b => andImm b
  | .rolA => rolA | .bitAbs w => bitAbs w | .andAbs w => andAbs w | .rolAbs w => rolAbs w | .bmi b => bmi b
  | .andIndY b => andIndY b | .bitZpX b => bitZpX b | .andZpX b => andZpX b | .rolZpX b => rolZpX b | .sec => sec
  | .andAbsY w => andAbsY w | .decA => decA | .bitAbsX w => bitAbsX w | .andAbsX w => andAbsX w
  | .rolAbsX w => rolAbsX w | .rti => rti | .eorIndX b => eorIndX b | .eorZp b => eorZp b | .lsrZp b => lsrZp b
  | .pha => pha | .eorImm b => eorImm b | .lsrA => lsrA | .jmpAbs w => jmpAbs w | .eorAbs w => eorAbs w
  | .lsrAbs w => lsrAbs w | .bvc b => bvc b | .eorIndY b => eorIndY b | .eorZpX b => eorZpX b
  | .lsrZpX b => lsrZpX b | .cli => cli | .eorAbsY w => eorAbsY w | .phy => phy | .eorAbsX w => eorAbsX w
  | .lsrAbsX w => lsrAbsX w | .rts => rts | .adcIndX b => adcIndX b | .stzZp b => stzZp b | .adcZp b => adcZp b
  | .rorZp b => rorZp b | .pla => pla | .adcImm b => adcImm b | .rorA => rorA | .jmpInd w => jmpInd w
  | .adcAbs w => adcAbs w | .rorAbs w => rorAbs w | .bvs b => bvs b | .adcIndY b => adcIndY b
  | .stzZpX b => stzZpX b | .adcZpX b => adcZpX b | .rorZpX b => rorZpX b | .sei => sei | .adcAbsY w => adcAbsY w
  | .ply => ply | .jmpIndAbsX w => jmpIndAbsX w | .adcAbsX w => adcAbsX w | .rorAbsX w => rorAbsX w
  | .bra b => bra b | .staIndX b => staIndX b | .styZp b => styZp b | .staZp b => staZp b | .stxZp b => stxZp b
  | .dey => dey | .bitImm b => bitImm b | .txa => txa | .styAbs w => styAbs w | .staAbs w => staAbs w
  | .stxAbs w => stxAbs w | .bcc b => bcc b | .staIndY b => staIndY b | .styZpX b => styZpX b
  | .staZpX b => staZpX b | .stxZpY b => stxZpY b | .tya => tya | .staAbsY w => staAbsY w | .txs => txs
  | .stzAbs w => stzAbs w | .staAbsX w => staAbsX w | .stzAbsX w => stzAbsX w | .ldyImm b => ldyImm b
  | .ldaIndX b => ldaIndX b | .ldxImm b => ldxImm b | .ldyZp b => ldyZp b | .ldaZp b => ldaZp b
  | .ldxZp b => ldxZp b | .tay => tay | .ldaImm b => ldaImm b | .tax => tax | .ldyAbs w => ldyAbs w
  | .ldaAbs w => ldaAbs w | .ldxAbs w => ldxAbs w | .bcs b => bcs b | .ldaIndY b => ldaIndY b
  | .ldyZpX b => ldyZpX b | .ldaZpX b => ldaZpX b | .ldxZpY b => ldxZpY b | .clv => clv | .ldaAbsY w => ldaAbsY w
  | .tsx => tsx | .ldyAbsX w => ldyAbsX w | .ldaAbsX w => ldaAbsX w | .ldxAbsY w => ldxAbsY w
  | .cpyImm b => cpyImm b | .cmpIndX b => cmpIndX b | .cpyZp b => cpyZp b | .cmpZp b => cmpZp b
  | .decZp b => decZp b | .iny => iny | .cmpImm b => cmpImm b | .dex => dex | .cpyAbs w => cpyAbs w
  | .cmpAbs w => cmpAbs w | .decAbs w => decAbs w | .bne b => bne b | .cmpIndY b => cmpIndY b
  | .cmpZpX b => cmpZpX b | .decZpX b => decZpX b | .cld => cld | .cmpAbsY w => cmpAbsY w | .phx => phx
  | .cmpAbsX w => cmpAbsX w | .decAbsX w => decAbsX w | .cpxImm b => cpxImm b | .sbcIndX b => sbcIndX b
  | .cpxZp b => cpxZp b | .sbcZp b => sbcZp b | .incZp b => incZp b | .inx => inx | .sbcImm b => sbcImm b
  | .nop => nop | .cpxAbs w => cpxAbs w | .sbcAbs w => sbcAbs w | .incAbs w => incAbs w | .beq b => beq b
  | .sbcIndY b => sbcIndY b | .sbcZpX b => sbcZpX b | .incZpX b => incZpX b | .sed => sed | .sbcAbsY w => sbcAbsY w
  | .plx => plx | .sbcAbsX w => sbcAbsX w | .incAbsX w => incAbsX w

theorem encode_eq_cons (i : Instr) : encode i = opcodeOf i :: (encode i).tail := by
  cases i <;> rfl

/-! ## From a row to its instructions -/

/-- The columns of the row are those of the instruction `i`, which its form makes of the bytes `operand`, and its base
count is in the range of R350. One equation, so that a row of the table satisfies it by computation. -/
def Row.Describes (r : Row) (i : Instr) (operand : List Byte) : Prop :=
  (encode i, i.mode, i.group, r.mode.operandBytes, decide (2 ≤ r.base ∧ r.base ≤ 7)) =
    (r.opcode :: operand, r.mode, r.group, operand.length, true)

/-- The row describes every instruction that its form makes. -/
def Row.Sound (r : Row) : Prop :=
  match r.form with
  | .f0 i => r.Describes i []
  | .f1 make => ∀ b, r.Describes (make b) [b]
  | .f2 make => ∀ w, r.Describes (make w) [lo w, hi w]

theorem opcodeRow_sound (k : Nat) : (opcodeRow k).Forall Row.Sound := by
  unfold opcodeRow
  split <;> simp only [List.Forall, Row.Sound] <;> and_intros <;> intros <;> rfl

/-- A row that the table yields is the row of its opcode, and is sound. -/
theorem sound_of_lookup {op : Byte} {r : Row} (hrow : lookup op = some r) : r.opcode = op ∧ r.Sound :=
  ⟨by simpa using List.find?_some hrow,
    List.forall_iff_forall_mem.mp (opcodeRow_sound _) r (List.mem_of_find?_eq_some hrow)⟩

section
variable {r : Row} {i : Instr} {operand : List Byte}

theorem Row.describes_iff : r.Describes i operand ↔
    encode i = r.opcode :: operand ∧ i.mode = r.mode ∧ i.group = r.group ∧
      r.mode.operandBytes = operand.length ∧ 2 ≤ r.base ∧ r.base ≤ 7 := by
  simp only [Row.Describes, Prod.mk.injEq, decide_eq_true_eq]

theorem Row.Describes.row_columns (h : r.Describes i operand) :
    2 ≤ r.base ∧ r.base ≤ 7 ∧ r.mode.operandBytes = operand.length := by
  obtain ⟨-, -, -, hoperand, hlow, hhigh⟩ := Row.describes_iff.mp h
  exact ⟨hlow, hhigh, hoperand⟩

theorem Row.Describes.instr_columns (h : r.Describes i operand) :
    lengthOf i = operand.length + 1 ∧ i.mode = r.mode ∧ opcodeOf i = r.opcode := by
  obtain ⟨hencode, hmode, -⟩ := Row.describes_iff.mp h
  exact ⟨congrArg List.length hencode, hmode, congrArg (·.headD 0x00) hencode⟩

/-- The bytes an instruction is assembled from are its operand, and the bytes left over. -/
theorem Row.Sound.describes_of_assemble {bytes rest : List Byte} (hr : r.Sound)
    (hassemble : r.form.assemble bytes = some (i, rest)) :
    ∃ operand, r.Describes i operand ∧ bytes = operand ++ rest := by
  obtain ⟨opcode, mode, base, cross, group, form⟩ := r
  cases form with
  | f0 j =>
    cases hassemble
    exact ⟨[], hr, rfl⟩
  | f1 make =>
    match bytes, hassemble with
    | b :: _, rfl => exact ⟨[b], hr b, rfl⟩
  | f2 make =>
    match bytes, hassemble with
    | b :: c :: _, rfl => exact ⟨[b, c], by simpa only [lo_cat, hi_cat] using hr (cat c b), rfl⟩

end

theorem Form.assemble_two_isSome (f : Form) (b c : Byte) (rest : List Byte) :
    (f.assemble (b :: c :: rest)).isSome = true := by
  cases f <;> rfl

/-! ## The decoder: when it accepts and when it rejects -/

theorem decode_eq_ok_iff (c02Extra : Bool) (op : Byte) (bytes : List Byte) (out : Instr × List Byte) :
    decode c02Extra (op :: bytes) = .ok out ↔
      ∃ r, lookup op = some r ∧ r.group.admitted c02Extra = true ∧ r.form.assemble bytes = some out := by
  cases hrow : lookup op with
  | none => simp [decode, hrow]
  | some r =>
    cases hgroup : r.group.admitted c02Extra with
    | false => simp [decode, hrow, hgroup]
    | true => cases hform : r.form.assemble bytes <;> simp [decode, hrow, hgroup, hform]

/-- Only the opcode's row and its group make an opcode illegal (R88). -/
theorem decode_eq_illegalOpcode_iff (c02Extra : Bool) (op : Byte) (bytes : List Byte) :
    decode c02Extra (op :: bytes) = .error (.illegalOpcode op) ↔
      (lookup op).any (·.group.admitted c02Extra) = false := by
  cases hrow : lookup op with
  | none => simp [decode, hrow]
  | some r =>
    cases hgroup : r.group.admitted c02Extra with
    | false => simp [decode, hrow, hgroup]
    | true => cases hform : r.form.assemble bytes <;> simp [decode, hrow, hgroup, hform]

/-- No instruction has more than two operand bytes. -/
theorem exists_decode_of_admitted {c02Extra : Bool} {op : Byte} (b c : Byte) (rest : List Byte)
    (h : (lookup op).any (·.group.admitted c02Extra) = true) :
    ∃ out, decode c02Extra (op :: b :: c :: rest) = .ok out := by
  cases hrow : lookup op with
  | none =>
    rw [hrow] at h
    cases h
  | some r =>
    rw [hrow] at h
    obtain ⟨out, hout⟩ := Option.isSome_iff_exists.mp (r.form.assemble_two_isSome b c rest)
    exact ⟨out, (decode_eq_ok_iff ..).mpr ⟨r, hrow, h, hout⟩⟩

/-- The table against the lists of R89, byte by byte. -/
theorem not_admitted_iff_listed (c02Extra : Bool) (op : Byte) : (lookup op).any (·.group.admitted c02Extra) = false ↔
    op ∈ Claims.alwaysIllegal ∨ (c02Extra = false ∧ op ∈ Claims.optionalBytes) := by
  revert c02Extra op
  decide

/-- Settles O1: `OpcodeRow` says which row the opcode has and that its form gives the instruction back; the row's group
is the instruction's, which is admitted. -/
theorem decodeAfterEncode : Obligations.DecodeAfterEncode := by
  intro c02Extra i rest hwf
  obtain ⟨r, hrow, -, -, hgroup, hassemble⟩ := Laws.OpcodeRow.all i
  rw [encode_eq_cons, List.cons_append, decode_eq_ok_iff]
  exact ⟨r, hrow, by rwa [hgroup], hassemble rest⟩

/-- Settles O2: the row that was found describes the instruction that its form made, so its bytes are the ones consumed
and its group is the admitted one. -/
theorem decodedBytesAreTheEncoding : Obligations.DecodedBytesAreTheEncoding := by
  intro c02Extra bytes i rest hdecode
  cases bytes with
  | nil => cases hdecode
  | cons op bytes =>
    obtain ⟨r, hrow, hadmitted, hassemble⟩ := (decode_eq_ok_iff ..).mp hdecode
    obtain ⟨rfl, hsound⟩ := sound_of_lookup hrow
    obtain ⟨operand, hdescribes, rfl⟩ := hsound.describes_of_assemble hassemble
    obtain ⟨hencode, -, hgroup, -⟩ := Row.describes_iff.mp hdescribes
    exact ⟨by rwa [Instr.wellFormed, hgroup], by rw [hencode, List.cons_append]⟩

/-- Settles O3: an opcode is illegal when no admitted row has it, and those are the bytes of R89. -/
theorem illegalOpcodesAreTheListed : Obligations.IllegalOpcodesAreTheListed := fun c02Extra op rest =>
  (decode_eq_illegalOpcode_iff c02Extra op rest).trans (not_admitted_iff_listed c02Extra op)

/-- Settles O4: a row that the table yields is sound, and what it describes has its columns; the columns of the row
itself show on any one operand. -/
theorem tableRowsAreConsistent : Obligations.TableRowsAreConsistent := by
  intro op r hrow
  obtain ⟨rfl, hsound⟩ := sound_of_lookup hrow
  refine ⟨rfl, ?_⟩
  obtain ⟨opcode, mode, base, cross, group, form⟩ := r
  cases form with
  | f0 i =>
    obtain ⟨hlow, hhigh, hoperand⟩ := Row.Describes.row_columns hsound
    exact ⟨hlow, hhigh, hoperand, Row.Describes.instr_columns hsound⟩
  | f1 make =>
    obtain ⟨hlow, hhigh, hoperand⟩ := (hsound 0).row_columns
    exact ⟨hlow, hhigh, hoperand, fun b => (hsound b).instr_columns⟩
  | f2 make =>
    obtain ⟨hlow, hhigh, hoperand⟩ := (hsound 0).row_columns
    exact ⟨hlow, hhigh, hoperand, fun w => (hsound w).instr_columns⟩

/-- Settles O5: the decoder runs on eight closed words. -/
theorem sampleWordsDecode : Obligations.SampleWordsDecode :=
  ⟨rfl, rfl, rfl, rfl, rfl, rfl, rfl, rfl⟩

end Sys2Proof
end

section
/-! SUPPORT. The Operation Dispatcher as one equation (R123, R125 of `41_dispatch_and_cycles.md`). Every instruction
resolves its operand, enters with `pc` past its bytes, runs the one handler of its mnemonic and re-arms `cyc`. What holds
of all 170 instructions is then said once for the 64 handlers: which of them write each field, and that none of them
looks at D, I or the timing parameters. -/

namespace Sys2Proof

namespace Machine

/-- What an instruction is applied to: nothing (R101), the accumulator (R102), a byte (R103) or a memory operand
(R117). -/
inductive Operand where
  | none
  | acc
  | imm (b : Byte)
  | mem (m : AddrMode)

/-- The mode of such an instruction (R81). -/
def Operand.mode : Operand → Mode
  | .none => .imp
  | .acc => .acc
  | .imm _ => .imm
  | .mem m => m.mode

/-- Its length in bytes (R81). -/
def Operand.length : Operand → Nat
  | .none | .acc => 1
  | .imm _ => 2
  | .mem m => m.length

/-- `crossed` (R116), false without a memory operand. -/
def Operand.crossed (o : Operand) (s : State) : Bool :=
  match o with
  | .mem m => Machine.crossed m s
  | _ => false

/-- The state that a handler starts from, as one update (lines 7 and 8 of R123). -/
def Operand.enter (op : Byte) (o : Operand) (s : State) : State :=
  { s with
    pc := s.pc + BitVec.ofNat 16 o.length
    bonus := s.bonus + if o.crossed s && paysCrossing s.cfg op then 1 else 0 }

theorem Operand.enter_eq (op : Byte) (o : Operand) (s : State) :
    o.enter op s = advance o.length (crossingBonus op (o.crossed s) s) := by
  rw [advance_eq, crossingBonus_eq]
  rfl

/-- What line 6 of R123 hands to the handler: the byte it reads, the address it stores at or jumps to, the place it
modifies. A field that no handler takes with this operand is filled with 0. -/
structure Resolved where
  immediate : Bool
  value : Byte
  addr : Word
  place : EA

/-- The operand resolved in the state before the instruction. -/
def Operand.resolve (o : Operand) (s : State) : Resolved :=
  match o with
  | .none => ⟨false, 0, 0, .mem 0⟩
  | .acc => ⟨false, s.a, 0, .acc⟩
  | .imm b => ⟨true, b, 0, .mem 0⟩
  | .mem m => ⟨false, memRead s (effAddr m s), effAddr m s, .mem (effAddr m s)⟩

theorem Operand.resolve_place_eq_acc_iff (o : Operand) (s : State) :
    (o.resolve s).place = .acc ↔ o.mode = .acc := by
  cases o with
  | mem m => cases m <;> simp [resolve, mode, AddrMode.mode]
  | _ => simp [resolve, mode]

theorem Operand.resolve_immediate_eq_false_iff (o : Operand) (s : State) :
    (o.resolve s).immediate = false ↔ o.mode ≠ .imm := by
  cases o with
  | mem m => cases m <;> simp [resolve, mode, AddrMode.mode]
  | _ => simp [resolve, mode]

/-- A branch as one update of the state: `pc` and `bonus` alone depend on the test of the flags (R210). -/
def jumpIf (cond : Flags → Bool) (target : Word) (s : State) : State :=
  { s with
    pc := if cond s.flags then target else s.pc
    bonus := s.bonus + if cond s.flags then takenBonus s.pc target else 0 }

/-- The operations whose handler is a branch. -/
def branches : List Mnemonic := [.bpl, .bmi, .bvc, .bvs, .bcc, .bcs, .bne, .beq, .bra]

theorem branch_eq (cond : Bool) (target : Word) (s : State) : branch cond target s =
    { s with
      pc := if cond then target else s.pc
      bonus := s.bonus + if cond then takenBonus s.pc target else 0 } := by
  cases cond <;> rfl

/-- The handler of each operation selector (R125). -/
def handler (mn : Mnemonic) (r : Resolved) : State → State :=
  match mn with
  | .lda => ldaOp r.value
  | .ldx => ldxOp r.value
  | .ldy => ldyOp r.value
  | .adc => adcOp r.value
  | .sbc => sbcOp r.value
  | .and => andOp r.value
  | .ora => oraOp r.value
  | .eor => eorOp r.value
  | .cmp => cmpOp r.value
  | .cpx => cpxOp r.value
  | .cpy => cpyOp r.value
  | .bit => if r.immediate then bitImmOp r.value else bitOp r.value
  | .sta => staOp r.addr
  | .stx => stxOp r.addr
  | .sty => styOp r.addr
  | .stz => stzOp r.addr
  | .asl => aslOp r.place
  | .lsr => lsrOp r.place
  | .rol => rolOp r.place
  | .ror => rorOp r.place
  | .inc => incOp r.place
  | .dec => decOp r.place
  | .tsb => tsbOp r.place
  | .trb => trbOp r.place
  | .bpl => jumpIf (!·.n) r.addr
  | .bmi => jumpIf (·.n) r.addr
  | .bvc => jumpIf (!·.v) r.addr
  | .bvs => jumpIf (·.v) r.addr
  | .bcc => jumpIf (!·.c) r.addr
  | .bcs => jumpIf (·.c) r.addr
  | .bne => jumpIf (!·.z) r.addr
  | .beq => jumpIf (·.z) r.addr
  | .bra => jumpIf (fun _ => true) r.addr
  | .jmp => jmpOp r.addr
  | .jsr => jsrOp r.addr
  | .rts => rtsOp
  | .rti => rtiOp
  | .tax => taxOp
  | .tay => tayOp
  | .txa => txaOp
  | .tya => tyaOp
  | .tsx => tsxOp
  | .txs => txsOp
  | .inx => inxOp
  | .iny => inyOp
  | .dex => dexOp
  | .dey => deyOp
  | .pha => phaOp
  | .pla => plaOp
  | .php => phpOp
  | .plp => plpOp
  | .phx => phxOp
  | .plx => plxOp
  | .phy => phyOp
  | .ply => plyOp
  | .clc => clcOp
  | .sec => secOp
  | .cli => cliOp
  | .sei => seiOp
  | .cld => cldOp
  | .sed => sedOp
  | .clv => clvOp
  | .nop => nopOp
  | .brk => brkOp

end Machine

open Machine

/-- The operand of an instruction. -/
def Instr.operand : Instr → Operand
  | .brk | .php | .clc | .plp | .sec | .rti | .pha | .cli | .phy | .rts | .pla | .sei | .ply | .dey | .txa | .tya
  | .txs | .tay | .tax | .clv | .tsx | .iny | .dex | .cld | .phx | .inx | .nop | .sed | .plx => .none
  | .aslA | .incA | .rolA | .decA | .lsrA | .rorA => .acc
  | .oraImm b | .andImm b | .eorImm b | .adcImm b | .bitImm b | .ldyImm b | .ldxImm b | .ldaImm b | .cpyImm b
  | .cmpImm b | .cpxImm b | .sbcImm b => .imm b
  | .tsbZp b | .oraZp b | .aslZp b | .trbZp b | .bitZp b | .andZp b | .rolZp b | .eorZp b | .lsrZp b | .stzZp b
  | .adcZp b | .rorZp b | .styZp b | .staZp b | .stxZp b | .ldyZp b | .ldaZp b | .ldxZp b | .cpyZp b | .cmpZp b
  | .decZp b | .cpxZp b | .sbcZp b | .incZp b => .mem (.zp b)
  | .oraZpX b | .aslZpX b | .bitZpX b | .andZpX b | .rolZpX b | .eorZpX b | .lsrZpX b | .stzZpX b | .adcZpX b
  | .rorZpX b | .styZpX b | .staZpX b | .ldyZpX b | .ldaZpX b | .cmpZpX b | .decZpX b | .sbcZpX b
  | .incZpX b => .mem (.zpx b)
  | .stxZpY b | .ldxZpY b => .mem (.zpy b)
  | .tsbAbs w | .oraAbs w | .aslAbs w | .trbAbs w | .jsr w | .bitAbs w | .andAbs w | .rolAbs w | .jmpAbs w
  | .eorAbs w | .lsrAbs w | .adcAbs w | .rorAbs w | .styAbs w | .staAbs w | .stxAbs w | .stzAbs w | .ldyAbs w
  | .ldaAbs w | .ldxAbs w | .cpyAbs w | .cmpAbs w | .decAbs w | .cpxAbs w | .sbcAbs w | .incAbs w => .mem (.abs w)
  | .oraAbsX w | .aslAbsX w | .bitAbsX w | .andAbsX w | .rolAbsX w | .eorAbsX w | .lsrAbsX w | .adcAbsX w
  | .rorAbsX w | .staAbsX w | .stzAbsX w | .ldyAbsX w | .ldaAbsX w | .cmpAbsX w | .decAbsX w | .sbcAbsX w
  | .incAbsX w => .mem (.absx w)
  | .oraAbsY w | .andAbsY w | .eorAbsY w | .adcAbsY w | .staAbsY w | .ldaAbsY w | .ldxAbsY w | .cmpAbsY w
  | .sbcAbsY w => .mem (.absy w)
  | .oraIndX b | .andIndX b | .eorIndX b | .adcIndX b | .staIndX b | .ldaIndX b | .cmpIndX b
  | .sbcIndX b => .mem (.indx b)
  | .oraIndY b | .andIndY b | .eorIndY b | .adcIndY b | .staIndY b | .ldaIndY b | .cmpIndY b
  | .sbcIndY b => .mem (.indy b)
  | .jmpInd w => .mem (.ind w)
  | .jmpIndAbsX w => .mem (.indabsx w)
  | .bpl b | .bmi b | .bvc b | .bvs b | .bra b | .bcc b | .bcs b | .bne b | .beq b => .mem (.rel b)

theorem Instr.operand_mode (i : Instr) : i.operand.mode = i.mode := by
  cases i <;> rfl

/-- The state that an instruction leaves (lines 6 to 10 of R123). -/
def Instr.outcome (i : Instr) (s : State) : State :=
  rearm (opcodeOf i) (handler i.mnemonic (i.operand.resolve s) (i.operand.enter (opcodeOf i) s))

/-- The dispatcher is the table of handlers. Only a branch is spelled differently there, by `branch_eq`. -/
theorem Machine.exec_eq_outcome (i : Instr) (s : State) : exec i s = .next (i.outcome s) := by
  rw [Instr.outcome, Operand.enter_eq]
  cases i with
  | bpl | bmi | bvc | bvs | bcc | bcs | bne | beq | bra =>
    exact congrArg (fun t => (.next (rearm _ t) : Result)) (branch_eq _ _ _)
  | _ => rfl

theorem Machine.exec_eq_next_iff {i : Instr} {s t : State} : exec i s = .next t ↔ i.outcome s = t := by
  rw [exec_eq_outcome, Host.Outcome.next.injEq]

namespace Machine

section
variable (mn : Mnemonic) (r : Resolved) (u : State)

/-- The handlers that write each field of the state (R20 to R44): any other handler leaves the field as it is. -/
theorem handler_writes : handler mn r u =
    { pc := (handler mn r u).pc
      sp := if mn ∈ [.pha, .pla, .php, .plp, .phx, .plx, .phy, .ply, .jsr, .rts, .rti, .txs] then
        (handler mn r u).sp else u.sp
      a := if mn ∈ [.lda, .adc, .sbc, .and, .ora, .eor, .pla, .txa, .tya] ∨
          (mn ∈ [.asl, .lsr, .rol, .ror, .inc, .dec, .tsb, .trb] ∧ r.place = .acc)
        then (handler mn r u).a else u.a
      x := if mn ∈ [.ldx, .tax, .tsx, .inx, .dex, .plx] then (handler mn r u).x else u.x
      y := if mn ∈ [.ldy, .tay, .iny, .dey, .ply] then (handler mn r u).y else u.y
      flags :=
        { c := if mn ∈ [.adc, .sbc, .cmp, .cpx, .cpy, .asl, .lsr, .rol, .ror, .clc, .sec, .plp, .rti] then
            (handler mn r u).flags.c else u.flags.c
          i := if mn ∈ [.cli, .sei, .plp, .rti] then (handler mn r u).flags.i else u.flags.i
          d := if mn ∈ [.cld, .sed, .plp, .rti] then (handler mn r u).flags.d else u.flags.d
          b := if mn ∈ [.plp, .rti] then (handler mn r u).flags.b else u.flags.b
          v := if mn ∈ [.adc, .sbc, .clv, .plp, .rti] ∨ (mn = .bit ∧ r.immediate = false) then
            (handler mn r u).flags.v else u.flags.v
          z := if mn ∈ [.lda, .ldx, .ldy, .tax, .tay, .txa, .tya, .tsx, .pla, .plx, .ply, .adc, .sbc, .and, .ora,
              .eor, .cmp, .cpx, .cpy, .bit, .asl, .lsr, .rol, .ror, .inc, .dec, .inx, .iny, .dex, .dey, .tsb, .trb,
              .plp, .rti]
            then (handler mn r u).flags.z else u.flags.z
          n := if mn ∈ [.lda, .ldx, .ldy, .tax, .tay, .txa, .tya, .tsx, .pla, .plx, .ply, .adc, .sbc, .and, .ora,
              .eor, .cmp, .cpx, .cpy, .asl, .lsr, .rol, .ror, .inc, .dec, .inx, .iny, .dex, .dey, .plp, .rti] ∨
              (mn = .bit ∧ r.immediate = false)
            then (handler mn r u).flags.n else u.flags.n }
      cyc := u.cyc
      bonus := if mn ∈ branches then (handler mn r u).bonus else u.bonus
      brkHalt := if mn = .brk then true else u.brkHalt
      illegal := u.illegal
      mem := if mn ∈ [.sta, .stx, .sty, .stz] ∨
          (mn ∈ [.asl, .lsr, .rol, .ror, .inc, .dec, .tsb, .trb] ∧ r.place ≠ .acc) ∨
          mn ∈ [.pha, .php, .phx, .phy, .jsr]
        then (handler mn r u).mem else u.mem
      pcSeeded := u.pcSeeded
      cfg := u.cfg } := by
  obtain ⟨immediate, value, addr, place⟩ := r
  cases mn with
  | asl | lsr | rol | ror | inc | dec | tsb | trb => cases place <;> rfl
  | bit => cases immediate <;> rfl
  | _ => rfl

/-- The state with D and I replaced. -/
def withDI (d i : Bool) (s : State) : State := { s with flags := { s.flags with d := d, i := i } }

/-- Only PHP looks at D and I (R32, R33). -/
theorem handler_withDI (hphp : mn ≠ .php) (d i : Bool) : handler mn r (withDI d i u) =
    withDI (if mn ∈ [.cld, .sed, .plp, .rti] then (handler mn r u).flags.d else d)
      (if mn ∈ [.cli, .sei, .plp, .rti] then (handler mn r u).flags.i else i) (handler mn r u) := by
  obtain ⟨immediate, value, addr, place⟩ := r
  cases mn with
  | php => exact absurd rfl hphp
  | asl | lsr | rol | ror | inc | dec | tsb | trb => cases place <;> rfl
  | bit => cases immediate <;> rfl
  | _ => rfl

/-- The state without its timing: what R131 calls the register file and memory, the latches, and the parameters that
are not timing. -/
def eraseTiming (s : State) : State :=
  { s with cyc := 0, bonus := 0, cfg := { s.cfg with baseCycles := [], pageCross := [], tickBias := 0 } }

/-- No handler looks at the timing. -/
theorem eraseTiming_handler : eraseTiming (handler mn r (eraseTiming u)) = eraseTiming (handler mn r u) := by
  obtain ⟨immediate, value, addr, place⟩ := r
  cases mn with
  | asl | lsr | rol | ror | inc | dec | tsb | trb => cases place <;> rfl
  | bit => cases immediate <;> rfl
  | _ => rfl

end

end Machine

end Sys2Proof
end

section
/-! SUPPORT. The rules of the whole machine and its timing (R21 to R36 of `10_state.md`, R50 of `20_memory.md`, R126 to
R131 of `41_dispatch_and_cycles.md`, R350 to R352 of `70_reset_and_hazards.md`): O51, O52, O53, O54, O55, O56 and O58.
They follow from what holds of every handler and from what the entry into an instruction leaves alone. -/

namespace Sys2Proof.Machine

open Claims

/-! ## Writers -/

/-- A value that has changed was written. -/
theorem of_eq_ite_of_ne {α : Type} {P : Prop} [Decidable P] {new old : α} (h : new = if P then new else old)
    (hne : new ≠ old) : P := by
  by_contra hP
  exact hne (by rwa [if_neg hP] at h)

/-- No instruction writes the parameters, `illegal` or the mark that `pc` is seeded, and only BRK writes `brk_halt`. -/
theorem outcome_frame (i : Instr) (s : State) :
    (i.outcome s).cfg = s.cfg ∧ (i.outcome s).illegal = s.illegal ∧ (i.outcome s).pcSeeded = s.pcSeeded ∧
      (i.outcome s).brkHalt = if i.mnemonic = .brk then true else s.brkHalt := by
  have hw := handler_writes i.mnemonic (i.operand.resolve s) (i.operand.enter (opcodeOf i) s)
  exact ⟨(congrArg State.cfg hw :), (congrArg State.illegal hw :), (congrArg State.pcSeeded hw :),
    (congrArg State.brkHalt hw :)⟩

/-- TSB and TRB have no accumulator form. -/
theorem mnemonic_mem_of_mode_eq_acc {i : Instr} (h : i.mode = .acc) :
    i.mnemonic ∈ [.asl, .lsr, .rol, .ror, .inc, .dec] := by
  cases i with
  | aslA | lsrA | rolA | rorA | incA | decA => decide
  | _ => cases h

/-! ## Memory -/

section
variable (mn : Mnemonic) (r : Resolved) (u : State)

/-- Every handler keeps the canonical form: what writes memory does so through `MemWrite` (R54). -/
theorem handler_wf (h : Memory.wf u.mem = true) : Memory.wf (handler mn r u).mem = true := by
  have hmem := congrArg State.mem (handler_writes mn r u)
  cases mn with
  | sta | stx | sty | stz => exact memWrite_wf r.addr _ h
  | asl | lsr | rol | ror | inc | dec | tsb | trb => exact opWrite_wf r.place _ h
  | pha | php | phx | phy => exact push_wf _ h
  | jsr => exact push_wf _ (push_wf _ h)
  | _ =>
    rw [hmem]
    exact h

/-- A push writes in the stack page only (R240). -/
theorem memRead_push_of_off_page {v : Byte} {s : State} {k : Word} (hwf : Memory.wf s.mem = true)
    (hk : ¬ (0x100 ≤ k.toNat ∧ k.toNat ≤ 0x1FF)) : memRead (push v s) k = memRead s k := by
  rw [memRead_push v s k hwf, if_neg]
  rintro rfl
  have := s.sp.isLt
  rw [toNat_stackAddr] at hk
  omega

theorem memRead_handler_of_off_page {mn : Mnemonic} (hmn : mn ∈ [.pha, .php, .phx, .phy, .jsr]) {k : Word}
    (hwf : Memory.wf u.mem = true) (hk : ¬ (0x100 ≤ k.toNat ∧ k.toNat ≤ 0x1FF)) :
    memRead (handler mn r u) k = memRead u k := by
  cases mn with
  | pha | php | phx | phy => exact memRead_push_of_off_page hwf hk
  | jsr => exact (memRead_push_of_off_page (push_wf _ hwf) hk).trans (memRead_push_of_off_page hwf hk)
  | _ => simp at hmn

end

theorem outcome_wf {s : State} (i : Instr) (h : Memory.wf s.mem = true) : Memory.wf (i.outcome s).mem = true :=
  handler_wf i.mnemonic (i.operand.resolve s) (i.operand.enter (opcodeOf i) s) h

/-! ## What the resolver looks at -/

/-- The parts of the state that an operand is resolved from (R100 to R117). -/
def resolverView (s : State) : Word × Byte × Byte × Byte × Memory × Bool × Bool :=
  (s.pc, s.a, s.x, s.y, s.mem, s.cfg.zpPtrWrap, s.cfg.jmpIndPageWrap)

theorem Operand.resolve_congr {s t : State} (h : resolverView s = resolverView t) (o : Operand) :
    o.resolve s = o.resolve t ∧ o.crossed s = o.crossed t := by
  simp only [resolverView, Prod.mk.injEq] at h
  obtain ⟨hpc, ha, hx, hy, hmem, hzp, hind⟩ := h
  cases o with
  | none | imm => exact ⟨rfl, rfl⟩
  | acc => exact ⟨by rw [resolve, resolve, ha], rfl⟩
  | mem m =>
    cases m <;> simp [resolve, Operand.crossed, Machine.crossed, effAddr, zpRead16, memRead16, memRead,
      indirectHighAddr, hpc, hx, hy, hmem, hzp, hind]

/-! ## D and I -/

theorem outcome_withDI {i : Instr} (hphp : i.mnemonic ≠ .php) (decimal interrupt : Bool) (s : State) :
    i.outcome (withDI decimal interrupt s) =
      withDI (if i.mnemonic ∈ [.cld, .sed, .plp, .rti] then (i.outcome s).flags.d else decimal)
        (if i.mnemonic ∈ [.cli, .sei, .plp, .rti] then (i.outcome s).flags.i else interrupt) (i.outcome s) := by
  obtain ⟨hresolve, hcrossed⟩ := Operand.resolve_congr (s := withDI decimal interrupt s) (t := s) rfl i.operand
  have henter : i.operand.enter (opcodeOf i) (withDI decimal interrupt s) =
      withDI decimal interrupt (i.operand.enter (opcodeOf i) s) := by
    rw [Operand.enter, hcrossed]
    rfl
  rw [Instr.outcome, hresolve, henter, handler_withDI _ _ _ hphp]
  rfl

/-! ## Timing -/

/-- `t` with its own timing put back is `t`, whatever the timing before. -/
def withTimingOf (t e : State) : State :=
  { e with
    cyc := t.cyc
    bonus := t.bonus
    cfg := { e.cfg with
      baseCycles := t.cfg.baseCycles
      pageCross := t.cfg.pageCross
      tickBias := t.cfg.tickBias } }

theorem agreeButTiming_iff (s t : State) : AgreeButTiming s t ↔ eraseTiming s = eraseTiming t := by
  unfold AgreeButTiming
  constructor
  · exact fun h => (congrArg eraseTiming h :)
  · exact fun h => (congrArg (withTimingOf t) h :)

/-- The operand and `pc` do not depend on the timing, so the state that a handler starts from, erased, does not. -/
theorem eraseTiming_outcome (i : Instr) (s : State) :
    eraseTiming (i.outcome (eraseTiming s)) = eraseTiming (i.outcome s) := by
  obtain ⟨hresolve, -⟩ := Operand.resolve_congr (s := eraseTiming s) (t := s) rfl i.operand
  have hrearm (u : State) : eraseTiming (rearm (opcodeOf i) u) = eraseTiming u := rfl
  have henter : eraseTiming (i.operand.enter (opcodeOf i) (eraseTiming s)) =
      eraseTiming (i.operand.enter (opcodeOf i) s) := rfl
  rw [Instr.outcome, Instr.outcome, hrearm, hrearm, hresolve, ← eraseTiming_handler, henter, eraseTiming_handler]

/-! ## The bonus -/

/-- The most cycles that an instruction can add: two by a branch (R128), one by a crossing that its opcode pays
(R127). -/
def mostBonus (cfg : Config) (i : Instr) : Nat :=
  if i.mode = .rel then 2 else if paysCrossing cfg (opcodeOf i) then 1 else 0

theorem mostBonus_le_two (cfg : Config) (i : Instr) : mostBonus cfg i ≤ 2 := by
  unfold mostBonus
  split
  · decide
  · split <;> decide

theorem mem_branches_iff (i : Instr) : i.mnemonic ∈ branches ↔ i.mode = .rel :=
  decide_eq_decide.mp (by cases i <;> rfl)

/-- A branch crosses no page in the sense of R116. -/
theorem crossed_eq_false_of_rel {i : Instr} (hi : i.mode = .rel) (s : State) : i.operand.crossed s = false := by
  rw [← Instr.operand_mode] at hi
  cases ho : i.operand with
  | mem m =>
    rw [ho] at hi
    cases m with
    | rel => rfl
    | _ => cases hi
  | _ => rfl

theorem takenBonus_le_two (pc target : Word) : takenBonus pc target ≤ 2 := by
  unfold takenBonus
  split <;> decide

theorem handler_bonus_le (mn : Mnemonic) (r : Resolved) (u : State) :
    (handler mn r u).bonus ≤ u.bonus + if mn ∈ branches then 2 else 0 := by
  have hjump (cond : Flags → Bool) : (jumpIf cond r.addr u).bonus ≤ u.bonus + 2 := by
    refine Nat.add_le_add_left (n := if cond u.flags then takenBonus u.pc r.addr else 0) ?_ u.bonus
    split
    · exact takenBonus_le_two u.pc r.addr
    · decide
  cases mn with
  | bpl | bmi | bvc | bvs | bcc | bcs | bne | beq | bra => exact hjump _
  | _ => exact (congrArg State.bonus (handler_writes _ r u)).le

/-- A branch has no crossing to pay for, and no other handler adds to the bonus. -/
theorem outcome_bonus_le (i : Instr) (s : State) : (i.outcome s).bonus ≤ s.bonus + mostBonus s.cfg i := by
  have hhandler : (i.outcome s).bonus ≤
      s.bonus + (if i.operand.crossed s && paysCrossing s.cfg (opcodeOf i) then 1 else 0) +
        if i.mnemonic ∈ branches then 2 else 0 :=
    handler_bonus_le i.mnemonic (i.operand.resolve s) (i.operand.enter (opcodeOf i) s)
  rw [mostBonus]
  by_cases hrel : i.mode = .rel
  · rw [if_pos ((mem_branches_iff i).mpr hrel), crossed_eq_false_of_rel hrel s] at hhandler
    rw [if_pos hrel]
    exact hhandler
  · rw [if_neg (mt (mem_branches_iff i).mp hrel)] at hhandler
    rw [if_neg hrel]
    cases hcrossed : i.operand.crossed s with
    | false =>
      rw [hcrossed] at hhandler
      exact hhandler.trans (Nat.le_add_right s.bonus _)
    | true =>
      rw [hcrossed] at hhandler
      exact hhandler

/-- In the default tables the base count and the most that can come on top of it stay within R352. -/
theorem default_row_le (op : Byte) : (lookup op).all (fun r =>
    decide (r.base + (if r.mode = .rel then 2 else if r.cross then 1 else 0) ≤ 7)) = true := by
  revert op
  decide

theorem baseCycles_add_mostBonus_le (i : Instr) : baseCycles {} (opcodeOf i) + mostBonus {} i ≤ 7 := by
  obtain ⟨r, hrow, -, hmode, -⟩ := Laws.OpcodeRow.all i
  have hle := default_row_le (opcodeOf i)
  have hbase : baseCycles {} (opcodeOf i) = r.base := by simp [baseCycles, hrow]
  have hcross : paysCrossing {} (opcodeOf i) = r.cross := by simp [paysCrossing, hrow]
  rw [hrow] at hle
  rw [hbase, mostBonus, hcross, ← hmode]
  exact of_decide_eq_true hle

theorem outcome_cyc (i : Instr) (s : State) :
    (i.outcome s).cyc = baseCycles s.cfg (opcodeOf i) + (i.outcome s).bonus - s.cfg.tickBias.val := by
  rw [← (outcome_frame i s).1]
  rfl

theorem outcome_cyc_le {s : State} (i : Instr) (htiming : s.cfg.defaultTiming = true) (hbonus : s.bonus = 0) :
    (i.outcome s).cyc ≤ 7 := by
  simp only [Config.defaultTiming, Bool.and_eq_true, List.isEmpty_iff] at htiming
  obtain ⟨hbase, hcross⟩ := htiming
  have hbase' : baseCycles s.cfg (opcodeOf i) = baseCycles {} (opcodeOf i) := by
    simp only [baseCycles, hbase]
  have hmost : mostBonus s.cfg i = mostBonus {} i := by
    simp only [mostBonus, paysCrossing_of_pageCross_eq_nil hcross]
  have hle := outcome_bonus_le i s
  have htotal := baseCycles_add_mostBonus_le i
  rw [outcome_cyc, hbase']
  omega

end Sys2Proof.Machine

namespace Sys2Proof

open Machine

/-- Settles O55: states agree but for timing when they are the same with the timing erased, and erasing the timing before
an instruction makes no difference to what is erased after it. -/
theorem resultsDoNotDependOnTiming : Obligations.ResultsDoNotDependOnTiming := by
  intro i s s' hagree
  refine ⟨_, _, exec_eq_outcome i s, exec_eq_outcome i s', ?_⟩
  rw [agreeButTiming_iff] at hagree ⊢
  rw [← eraseTiming_outcome, hagree, eraseTiming_outcome]

/-- Settles O51: `handler_writes` has these lists; a place that is the accumulator means accumulator mode. -/
theorem registersHaveTheirWriters : Obligations.RegistersHaveTheirWriters := by
  intro i s t hexec
  obtain rfl := exec_eq_next_iff.mp hexec
  have hw := handler_writes i.mnemonic (i.operand.resolve s) (i.operand.enter (opcodeOf i) s)
  refine ⟨?a, of_eq_ite_of_ne (congrArg State.x hw), of_eq_ite_of_ne (congrArg State.y hw),
    of_eq_ite_of_ne (congrArg State.sp hw)⟩
  case a =>
    intro ha
    refine (of_eq_ite_of_ne (congrArg State.a hw) ha).imp_right fun ⟨_, hplace⟩ => ?_
    rw [Operand.resolve_place_eq_acc_iff, Instr.operand_mode] at hplace
    exact ⟨hplace, mnemonic_mem_of_mode_eq_acc hplace⟩

/-- Settles O52: `handler_writes` has these lists; BIT writes V and N unless its operand is immediate. -/
theorem flagsHaveTheirWriters : Obligations.FlagsHaveTheirWriters := by
  intro i s t hexec
  obtain rfl := exec_eq_next_iff.mp hexec
  have hw := congrArg State.flags (handler_writes i.mnemonic (i.operand.resolve s) (i.operand.enter (opcodeOf i) s))
  have hbit : i.mnemonic = .bit ∧ (i.operand.resolve s).immediate = false → i.mnemonic = .bit ∧ i.mode ≠ .imm := by
    rw [Operand.resolve_immediate_eq_false_iff, Instr.operand_mode]
    exact id
  exact ⟨of_eq_ite_of_ne (congrArg Flags.c hw), of_eq_ite_of_ne (congrArg Flags.i hw),
    of_eq_ite_of_ne (congrArg Flags.d hw), of_eq_ite_of_ne (congrArg Flags.b hw),
    fun hv => (of_eq_ite_of_ne (congrArg Flags.v hw) hv).imp_right hbit, of_eq_ite_of_ne (congrArg Flags.z hw),
    fun hn => (of_eq_ite_of_ne (congrArg Flags.n hw) hn).imp_right hbit⟩

/-- Settles O53: `handler_writes` has these lists; a push writes one cell of the stack page, and JSR is two pushes. -/
theorem memoryHasItsWriters : Obligations.MemoryHasItsWriters := by
  intro i s t hexec hmem
  obtain rfl := exec_eq_next_iff.mp hexec
  have hw := handler_writes i.mnemonic (i.operand.resolve s) (i.operand.enter (opcodeOf i) s)
  rcases of_eq_ite_of_ne (congrArg State.mem hw) hmem with hstore | ⟨hmodify, hplace⟩ | hpush
  · exact .inl (.inl hstore)
  · rw [ne_eq, Operand.resolve_place_eq_acc_iff, Instr.operand_mode] at hplace
    exact .inl (.inr ⟨hplace, hmodify⟩)
  · refine .inr ⟨hpush, fun hwf k hk => ?_⟩
    by_contra hpage
    exact hk (memRead_handler_of_off_page _ (i.operand.enter (opcodeOf i) s) hpush hwf hpage)

/-- Settles O54: `outcome_withDI` with the other flag at its own value, which an instruction that does not write that flag
keeps. -/
theorem decimalAndInterruptFlagsAreInert : Obligations.DecimalAndInterruptFlagsAreInert := by
  intro i s t hphp hexec v
  obtain rfl := exec_eq_next_iff.mp hexec
  have hw := congrArg State.flags (handler_writes i.mnemonic (i.operand.resolve s) (i.operand.enter (opcodeOf i) s))
  have hd : (i.outcome s).flags.d =
      if i.mnemonic ∈ [.cld, .sed, .plp, .rti] then (i.outcome s).flags.d else s.flags.d := congrArg Flags.d hw
  have hi : (i.outcome s).flags.i =
      if i.mnemonic ∈ [.cli, .sei, .plp, .rti] then (i.outcome s).flags.i else s.flags.i := congrArg Flags.i hw
  refine ⟨exec_eq_next_iff.mpr ?decimal, exec_eq_next_iff.mpr ?interrupt⟩
  case decimal =>
    have hout := outcome_withDI hphp v s.flags.i s
    rwa [← hi] at hout
  case interrupt =>
    have hout := outcome_withDI hphp s.flags.d v s
    rwa [← hd] at hout

/-- Settles O56: every instruction answers its outcome, which line 10 of R123 re-arms. -/
theorem instructionRearmsCountdown : Obligations.InstructionRearmsCountdown := fun i s =>
  ⟨_, exec_eq_outcome i s, outcome_cyc i s⟩

/-- Settles O58: the count of each of the 170 opcodes, computed from the table. -/
theorem baseCyclesByMode : Obligations.BaseCyclesByMode := by
  intro i
  unfold opcodeOf
  cases i <;> dsimp only [encode, List.headD_cons] <;> rfl

end Sys2Proof
end

section
/-! SUPPORT. What ADC and SBC compute (R171, R172 and R181 of `43_arithmetic_logic.md`): O32. The adder is exact in two
readings, unsigned with its carry and signed with its overflow, and SBC is the adder on `-1 - m`. -/

namespace Sys2Proof.Machine

open Claims

/-- C is the ninth bit of the sum (R171). -/
theorem adcResult_add_adcCarry (m a : Byte) (c : Bool) :
    (adcResult m a c).toNat + 256 * (adcCarry m a c).toNat = a.toNat + m.toNat + c.toNat := by
  have := m.isLt
  have := a.isLt
  have := c.toNat_le
  rw [adcResult_eq, adcCarry, adcSum, BitVec.toNat_ofNat]
  by_cases hcarry : 0x100 ≤ m.toNat + a.toNat + c.toNat
  · rw [decide_eq_true hcarry, Bool.toNat_true]
    omega
  · rw [decide_eq_false hcarry, Bool.toNat_false]
    omega

/-- V is signed overflow (R181): the operands agree in sign and the result does not. -/
theorem adcOverflow_iff (m a : Byte) (c : Bool) :
    adcOverflow m a c = true ↔ a.toInt + m.toInt + c.toNat < -128 ∨ 127 < a.toInt + m.toInt + c.toNat := by
  have := m.isLt
  have := a.isLt
  have := c.toNat_le
  rw [adcOverflow_eq, adcResult_eq, decide_eq_true_iff, BitVec.toNat_ofNat, BitVec.toInt_eq_toNat_cond,
    BitVec.toInt_eq_toNat_cond]
  split <;> split <;> omega

theorem toNat_xor_0xFF (m : Byte) : (m ^^^ 0xFF).toNat = 255 - m.toNat := by
  rw [xor_0xFF_eq, BitVec.toNat_ofNat]
  omega

theorem toInt_xor_0xFF (m : Byte) : (m ^^^ 0xFF).toInt = -1 - m.toInt := by
  rw [BitVec.toInt_eq_toNat_cond, BitVec.toInt_eq_toNat_cond, toNat_xor_0xFF]
  split <;> split <;> omega

end Sys2Proof.Machine

namespace Sys2Proof

open Machine

/-- Settles O32: the adder's two readings, on `m` for ADC and on its complement for SBC. -/
theorem adcAndSbcAreExact : Obligations.AdcAndSbcAreExact := by
  intro s t u m hadc hsbc carry sum difference
  cases hadc
  cases hsbc
  have hresult := adcResult_add_adcCarry (m ^^^ 0xFF) s.a s.flags.c
  have hoverflow := adcOverflow_iff (m ^^^ 0xFF) s.a s.flags.c
  rw [toNat_xor_0xFF] at hresult
  rw [toInt_xor_0xFF] at hoverflow
  have hm := m.isLt
  have hdifference : s.a.toInt + (-1 - m.toInt) + carry = difference := by omega
  refine ⟨adcOverflow_iff m s.a s.flags.c, adcResult_add_adcCarry m s.a s.flags.c, ?overflow, ?borrow⟩
  case overflow =>
    rw [← hdifference]
    exact hoverflow
  case borrow =>
    have hcarry : carry = s.flags.c.toNat := rfl
    change ((adcResult (m ^^^ 0xFF) s.a s.flags.c).toNat : Int) -
      256 * (1 - ((adcCarry (m ^^^ 0xFF) s.a s.flags.c).toNat : Int)) = _
    omega

end Sys2Proof
end

section
/-! SUPPORT. The tick (R120 to R131 of `41_dispatch_and_cycles.md`, R301 to R307 of `60_exceptions.md`): O6, O7, O8, O9,
O12, O13, O14, O15 and O19. A fetch is a decoding of the three bytes at `pc`, so the encoding's theorems say when it
fails, which bytes it has read, and what it makes of bytes that were stored there. -/

namespace Sys2Proof.Machine

open Claims

/-! ## Fetching (R55, R82, R123) -/

theorem fetch_eq_ok_iff (s : State) (i : Instr) :
    fetch s = .ok i ↔ ∃ rest, decode s.cfg.c02Extra (fetchBytes s) = .ok (i, rest) := by
  unfold fetch
  cases decode s.cfg.c02Extra (fetchBytes s) with
  | error e => simp
  | ok out => simp [Prod.ext_iff]

theorem fetch_eq_error_iff (s : State) (e : Reject) :
    fetch s = .error e ↔ decode s.cfg.c02Extra (fetchBytes s) = .error e := by
  unfold fetch
  cases decode s.cfg.c02Extra (fetchBytes s) <;> simp

/-- Three bytes are enough for any instruction, so a fetch fails only on an opcode that is not admitted (R88). -/
theorem fetch_fails_iff (s : State) : (∃ e, fetch s = .error e) ↔
    memRead s s.pc ∈ alwaysIllegal ∨ (s.cfg.c02Extra = false ∧ memRead s s.pc ∈ optionalBytes) := by
  simp only [fetch_eq_error_iff, ← not_admitted_iff_listed]
  constructor
  · rintro ⟨e, he⟩
    by_contra hadmitted
    obtain ⟨out, hout⟩ := exists_decode_of_admitted _ _ _ (Bool.eq_true_of_not_eq_false hadmitted)
    cases hout.symm.trans he
  · exact fun h => ⟨_, (decode_eq_illegalOpcode_iff ..).mpr h⟩

/-- The bytes fetched are the instruction's encoding and what follows it. -/
theorem fetchBytes_eq_of_fetch {s : State} {i : Instr} (h : fetch s = .ok i) :
    ∃ rest, fetchBytes s = encode i ++ rest := by
  obtain ⟨rest, hdecode⟩ := (fetch_eq_ok_iff s i).mp h
  exact ⟨rest, (decodedBytesAreTheEncoding _ _ _ _ hdecode).2⟩

theorem step_of_fetch_ok {s : State} {i : Instr} (hseeded : s.pcSeeded = true) (hcyc : s.cyc = 0)
    (hhalted : halted s = false) (hfetch : fetch s = .ok i) : step s = exec i (clearBonus s) := by
  rw [step_fetch hseeded hcyc hhalted, fetchTick, hfetch]

/-! ## A stored instruction -/

theorem encode_padded (i : Instr) : [(encode i).getD 0 0, (encode i).getD 1 0, (encode i).getD 2 0] =
    encode i ++ List.replicate (3 - lengthOf i) 0 := by
  cases i <;> rfl

theorem fetchBytes_of_stored (s : State) (b0 b1 b2 : Byte) (hwf : Memory.wf s.mem = true) :
    fetchBytes (memWrite (s.pc + 2) b2 (memWrite (s.pc + 1) b1 (memWrite s.pc b0 s))) = [b0, b1, b2] := by
  have h0 := memWrite_wf s.pc b0 hwf
  have h1 := memWrite_wf (s.pc + 1) b1 h0
  have h01 : s.pc ≠ s.pc + 1 := by bv_omega
  have h02 : s.pc ≠ s.pc + 2 := by bv_omega
  have h12 : s.pc + 1 ≠ s.pc + 2 := by bv_omega
  simp only [fetchBytes, memWrite_pc, memRead_memWrite _ _ _ _ hwf, memRead_memWrite _ _ _ _ h0,
    memRead_memWrite _ _ _ _ h1, if_neg h01, if_neg h02, if_neg h12, if_true]

/-! ## Burning down -/

theorem run_succ_of_step {M : Host.Core} {s u : M.State} (n : Nat) (h : M.step s = .next u) :
    M.run (n + 1) s = M.run n u := by
  rw [Host.Core.run, h]

theorem run_burns (n : Nat) {s : State} (hseeded : s.pcSeeded = true) (hcyc : s.cyc = n) :
    Host.Core.run Sys2Proof.core n s = .next { s with cyc := 0 } := by
  induction n generalizing s with
  | zero =>
    have hs : s = { s with cyc := 0 } := by rw [← hcyc]
    exact congrArg Host.Outcome.next hs
  | succ n ih =>
    have hstep : Sys2Proof.core.step s = .next (burn s) := step_burn hseeded (by omega)
    exact (run_succ_of_step n hstep).trans (ih hseeded (congrArg Nat.pred hcyc))

theorem mnemonic_eq_brk_iff (i : Instr) : i.mnemonic = .brk ↔ i = .brk := by
  constructor
  · intro h
    cases i with
    | brk => rfl
    | _ => cases h
  · rintro rfl
    rfl

end Sys2Proof.Machine

namespace Sys2Proof

open Machine Claims

/-- Settles O14: in each case of a tick. An instruction runs with neither latch set and the bonus cleared, keeps the
canonical form and `illegal`, and adds at most two cycles. -/
theorem stepKeepsInvariant : Obligations.StepKeepsInvariant := by
  intro s t hs h
  obtain ⟨hmem, hone, hrest, hbonus⟩ := hs
  obtain ⟨-, ⟨hcyc, rfl⟩ | ⟨-, -, rfl⟩ | ⟨hcyc, hhalted, -, rfl⟩ | ⟨-, hhalted, i, -, hexec⟩⟩ := step_cases h
  · exact ⟨hmem, hone, fun hill => absurd (hrest hill) hcyc.ne', hbonus⟩
  · exact ⟨hmem, hone, hrest, hbonus⟩
  · obtain ⟨hbrk, -⟩ := (not_halted_iff s).mp hhalted
    refine ⟨hmem, ?_, fun _ => hcyc, Nat.zero_le 2⟩
    rw [raise_illegalOpcode_brkHalt, clearBonus_brkHalt, hbrk, Bool.false_and]
  · obtain ⟨-, hill⟩ := (not_halted_iff s).mp hhalted
    obtain rfl := exec_eq_next_iff.mp hexec
    obtain ⟨-, hillegal, -⟩ := outcome_frame i (clearBonus s)
    rw [clearBonus_illegal, hill] at hillegal
    have hle := (outcome_bonus_le i (clearBonus s)).trans (Nat.add_le_add_left (mostBonus_le_two _ i) _)
    rw [clearBonus_bonus, Nat.zero_add] at hle
    exact ⟨outcome_wf i hmem, by rw [hillegal, Bool.and_false], fun h => by simp [hillegal] at h, hle⟩

/-- Settles O7: memory gives the stored bytes back, and they are the encoding padded to three, which decodes to the
instruction by O1. -/
theorem storedInstructionIsFetched : Obligations.StoredInstructionIsFetched := by
  intro s i hwf hi hseeded hcyc hbrk hill t
  have hbytes : fetchBytes t = encode i ++ List.replicate (3 - lengthOf i) 0 :=
    (fetchBytes_of_stored s _ _ _ hwf).trans (encode_padded i)
  have hfetch : fetch t = .ok i := by
    rw [fetch_eq_ok_iff, hbytes]
    exact ⟨_, decodeAfterEncode _ i _ hi⟩
  exact step_of_fetch_ok hseeded hcyc ((not_halted_iff t).mpr ⟨hbrk, hill⟩) hfetch

/-- Settles O8: the three bytes fetched begin with the encoding, so its byte `k` is the one at `pc + k`. -/
theorem fetchedOperandIsInMemory : Obligations.FetchedOperandIsInMemory := by
  intro s i hfetch k hk
  obtain ⟨rest, hbytes⟩ := fetchBytes_eq_of_fetch hfetch
  have hthree : 3 = lengthOf i + rest.length := by
    rw [lengthOf, ← List.length_append, ← hbytes]
    rfl
  rw [← List.getD_append _ rest _ _ hk, ← hbytes]
  have : k < 3 := by omega
  interval_cases k
  · exact congrArg (memRead s) (BitVec.add_zero s.pc)
  · rfl
  · rfl

/-- Settles O9: the fetch of a listed byte fails, and the tick then raises the condition. -/
theorem illegalOpcodeLatches : Obligations.IllegalOpcodeLatches := by
  intro s hseeded hcyc hbrk hill hop
  obtain ⟨e, he⟩ := (fetch_fails_iff s).mpr hop
  rw [step_fetch hseeded hcyc ((not_halted_iff s).mpr ⟨hbrk, hill⟩), fetchTick, he]
  rfl

/-- Settles O13, by induction on `cyc`. -/
theorem burnTicksReachTheNextFetch : Obligations.BurnTicksReachTheNextFetch := fun _ hseeded =>
  run_burns _ hseeded rfl

/-- Settles O19: burn ticks and halted ticks set no latch, a failed fetch means a listed byte, and an instruction that
sets `brk_halt` is BRK, whose opcode is 0x00. -/
theorem latchesHaveTheirCauses : Obligations.LatchesHaveTheirCauses := by
  intro s t hbrk hill h
  obtain ⟨-, ⟨-, rfl⟩ | ⟨-, -, rfl⟩ | ⟨hcyc, -, hfails, rfl⟩ | ⟨hcyc, -, i, hfetch, hexec⟩⟩ := step_cases h
  · simp [hbrk, hill]
  · simp [hbrk, hill]
  · have hop := (fetch_fails_iff s).mp hfails
    simp [hbrk, hcyc, hop]
  · obtain rfl := exec_eq_next_iff.mp hexec
    obtain ⟨-, hillegal, -, hbrkHalt⟩ := outcome_frame i (clearBonus s)
    rw [clearBonus_illegal, hill] at hillegal
    rw [clearBonus_brkHalt, hbrk] at hbrkHalt
    have hbyte : (i.outcome (clearBonus s)).brkHalt = true → memRead s s.pc = 0x00 := by
      intro hset
      have hi : i = .brk := by
        rw [← mnemonic_eq_brk_iff]
        by_contra hi
        simp [hbrkHalt, hi] at hset
      subst hi
      obtain ⟨rest, hbytes⟩ := fetchBytes_eq_of_fetch hfetch
      exact List.head_eq_of_cons_eq hbytes
    exact ⟨fun hset => ⟨hcyc, hbyte hset⟩, by simp [hillegal], by simp [hillegal]⟩

/-- Settles O6: the bytes written out are those of a fetch. -/
theorem stepRunsDecodedInstruction : Obligations.StepRunsDecodedInstruction :=
  fun s i rest hseeded hcyc hbrk hill hdecode =>
    step_of_fetch_ok hseeded hcyc ((not_halted_iff s).mpr ⟨hbrk, hill⟩) ((fetch_eq_ok_iff s i).mpr ⟨rest, hdecode⟩)

/-- Settles O12: the guard of a tick, and the mark that both host calls set. -/
theorem unseededTickIsRefused : Obligations.UnseededTickIsRefused := by
  intro s
  refine ⟨fun h => ?_, rfl, fun _ => rfl⟩
  rw [step, tick, h]
  rfl

/-- Settles O15: `Reset()` clears the latches, `cyc` and the bonus, and leaves memory. -/
theorem resetHasInvariant : Obligations.ResetHasInvariant :=
  ⟨⟨Memory.wf_reset, rfl, fun _ => rfl, Nat.zero_le 2⟩, fun _ hwf => ⟨hwf, rfl, fun _ => rfl, Nat.zero_le 2⟩⟩

end Sys2Proof
end

section
/-! SUPPORT. Schedules of host calls and the host's accessors (R304, R309, R316 to R320 of `60_exceptions.md`, R330 and
R331 of `70_reset_and_hazards.md`): O16, O17, O18, O20 and O22. What every call keeps is kept by every schedule; a call
other than a tick changes the fields that its function names. -/

namespace Sys2Proof.Machine

/-! ## What a step keeps -/

theorem step_cfg {s t : State} (h : step s = .next t) : t.cfg = s.cfg := by
  obtain ⟨-, ⟨-, rfl⟩ | ⟨-, -, rfl⟩ | ⟨-, -, -, rfl⟩ | ⟨-, -, i, -, hexec⟩⟩ := step_cases h
  · rfl
  · rfl
  · rfl
  · obtain rfl := exec_eq_next_iff.mp hexec
    exact (outcome_frame i (clearBonus s)).1

theorem step_cyc_le {s t : State} (htiming : s.cfg.defaultTiming = true) (hcyc : s.cyc ≤ 7)
    (h : step s = .next t) : t.cyc ≤ 7 := by
  obtain ⟨-, ⟨-, rfl⟩ | ⟨-, -, rfl⟩ | ⟨-, -, -, rfl⟩ | ⟨-, -, i, -, hexec⟩⟩ := step_cases h
  · exact (Nat.sub_le s.cyc 1).trans hcyc
  · exact hcyc
  · exact hcyc
  · obtain rfl := exec_eq_next_iff.mp hexec
    exact outcome_cyc_le i htiming rfl

/-! ## Schedules of calls -/

theorem runCalls_cons_eq_next_iff (k : HostCall) (calls : List HostCall) (s t : State) :
    runCalls (k :: calls) s = .next t ↔ ∃ u, k.apply s = .next u ∧ runCalls calls u = .next t := by
  rw [runCalls]
  cases k.apply s <;> simp

/-- What every call keeps, every schedule keeps. -/
theorem runCalls_keeps {P : State → Prop} (hcall : ∀ (k : HostCall) (s t : State), P s → k.apply s = .next t → P t)
    (calls : List HostCall) {s t : State} (hs : P s) (h : runCalls calls s = .next t) : P t := by
  induction calls generalizing s with
  | nil =>
    cases h
    exact hs
  | cons k calls ih =>
    obtain ⟨u, hu, hrest⟩ := (runCalls_cons_eq_next_iff ..).mp h
    exact ih (hcall k s u hs hu) hrest

theorem apply_cfg {k : HostCall} {s t : State} (h : k.apply s = .next t) : t.cfg = s.cfg := by
  cases k with
  | tick => exact step_cfg h
  | _ =>
    cases h
    rfl

theorem apply_cyc_le {k : HostCall} {s t : State} (htiming : s.cfg.defaultTiming = true) (hcyc : s.cyc ≤ 7)
    (h : k.apply s = .next t) : t.cyc ≤ 7 := by
  cases k with
  | tick => exact step_cyc_le htiming hcyc h
  | reset =>
    cases h
    exact Nat.zero_le 7
  | _ =>
    cases h
    exact hcyc

/-! ## The halted state (R304) -/

/-- Seeded, with the latches given. -/
def HaltedWith (brk ill : Bool) (s : State) : Prop :=
  s.pcSeeded = true ∧ s.brkHalt = brk ∧ s.illegal = ill

theorem apply_haltedWith {brk ill : Bool} (hlatch : brk = true ∨ ill = true) {k : HostCall} (hk : k ≠ .reset)
    {s : State} (hs : HaltedWith brk ill s) : ∃ t, k.apply s = .next t ∧ HaltedWith brk ill t := by
  obtain ⟨hseeded, rfl, rfl⟩ := hs
  cases k with
  | reset => exact absurd rfl hk
  | tick =>
    by_cases hcyc : 0 < s.cyc
    · exact ⟨_, step_burn hseeded hcyc, hseeded, rfl, rfl⟩
    · exact ⟨_, step_halted hseeded (Nat.eq_zero_of_not_pos hcyc) ((halted_iff s).mpr hlatch), hseeded, rfl, rfl⟩
  | setPc => exact ⟨_, rfl, rfl, rfl, rfl⟩
  | _ => exact ⟨_, rfl, hseeded, rfl, rfl⟩

theorem runCalls_haltedWith {brk ill : Bool} (hlatch : brk = true ∨ ill = true) {calls : List HostCall}
    (hcalls : .reset ∉ calls) {s : State} (hs : HaltedWith brk ill s) :
    ∃ t, runCalls calls s = .next t ∧ HaltedWith brk ill t := by
  induction calls generalizing s with
  | nil => exact ⟨s, rfl, hs⟩
  | cons k calls ih =>
    obtain ⟨hk, hcalls⟩ := not_or.mp (mt List.mem_cons.mpr hcalls)
    obtain ⟨u, hu, hhalted⟩ := apply_haltedWith hlatch (Ne.symm hk) hs
    obtain ⟨t, ht, hdone⟩ := ih hcalls hhalted
    exact ⟨t, (runCalls_cons_eq_next_iff ..).mpr ⟨u, hu, ht⟩, hdone⟩

/-! ## Addresses and bytes of the host (R318) -/

theorem ofNat_mod_two_pow (w k : Nat) : BitVec.ofNat w (k % 2 ^ w) = BitVec.ofNat w k :=
  BitVec.eq_of_toNat_eq (by simp)

theorem ofNat_eq_ofNat_iff (w j k : Nat) : BitVec.ofNat w j = BitVec.ofNat w k ↔ j % 2 ^ w = k % 2 ^ w := by
  rw [← BitVec.toNat_inj, BitVec.toNat_ofNat, BitVec.toNat_ofNat]

end Sys2Proof.Machine

namespace Sys2Proof

open Machine Claims

/-- Settles O16: every call keeps the parameters and the range. -/
theorem cycleCounterStaysInRange : Obligations.CycleCounterStaysInRange := fun calls _ _ hs hrun =>
  runCalls_keeps (fun _ _ _ ⟨htiming, hcyc⟩ h => ⟨by rwa [apply_cfg h], apply_cyc_le htiming hcyc h⟩) calls hs hrun

/-- Settles O17: every call keeps the parameters. -/
theorem parametersAreFixed : Obligations.ParametersAreFixed := fun calls s _ hrun =>
  runCalls_keeps (P := fun u => u.cfg = s.cfg) (fun _ _ _ hu h => (apply_cfg h).trans hu) calls rfl hrun

/-- Settles O18: a halted machine answers every call but `Reset()` with its latches as they were. -/
theorem onlyResetLeavesTheHaltedState : Obligations.OnlyResetLeavesTheHaltedState := by
  refine ⟨fun calls s hcalls hseeded hlatch => ?_, fun s => ⟨rfl, rfl⟩⟩
  obtain ⟨t, hrun, -, hbrk, hill⟩ := runCalls_haltedWith hlatch hcalls ⟨hseeded, rfl, rfl⟩
  exact ⟨t, hrun, hbrk, hill⟩

/-- Settles O22: the addresses and the byte are reduced by `BitVec.ofNat`, GetStatus packs what SetStatus unpacked, and a
read after a write is the law of the Memory Image. -/
theorem hostAccessorsTouchTheirField : Obligations.HostAccessorsTouchTheirField := by
  intro s addr v p other hwf
  refine ⟨?setPc, rfl, pack_unpack p, rfl, ?hostRead⟩
  case setPc =>
    have haddr : BitVec.ofNat 16 (addr % 65536) = BitVec.ofNat 16 addr := ofNat_mod_two_pow 16 addr
    rw [haddr]
    rfl
  case hostRead =>
    have hv : BitVec.ofNat 8 (v % 256) = BitVec.ofNat 8 v := ofNat_mod_two_pow 8 v
    rw [hostRead, hostWrite, memRead_memWrite _ _ _ _ hwf, hv]
    exact if_congr (ofNat_eq_ofNat_iff 16 other addr) rfl rfl

/-- Settles O20: the vector is read as a little-endian word, and every other field is the parameter it is reset from. -/
theorem resetLeavesResetValues : Obligations.ResetLeavesResetValues := by
  intro s
  refine ⟨?_, fun image => ⟨rfl, rfl, rfl, rfl, pack_unpack 0x24, rfl⟩⟩
  rw [← cat_eq_ofNat]
  rfl

end Sys2Proof
end
